-- ==== Sys2Proof/Word.lean ====
section
/-! DEFINITION. The word types of the EPC block: 8-bit registers (20_memory.md R32) and 32-bit operation words
(30_encoding.md R50). Every value is unsigned (00_scope.md section 6). -/

namespace Sys2Proof

/-- A register, a carry byte, or the data of one host access (R32). -/
abbrev Byte := BitVec 8

/-- An operation word (R50), and also the width of the extended count and of Last Full Count (R12, R16). -/
abbrev Word := BitVec 32

end Sys2Proof
end

