-- ==== Sys2Proof/Config.lean ====
section
/-! DEFINITION. The five named parameters of the model (00_scope.md section 4, R4) as one record of plain data, and the
one free value. A state carries its `Config` and no transition writes it, so a statement about every state holds for
every value of the parameters (notes/assumptions/4.md). -/

namespace Sys2Proof

/-- `P_INITIAL_MODE`, which is 0 or 1 (10_state.md R17). -/
inductive InitialMode where
  | baseFrequency
  | extraFrequency
deriving DecidableEq, Repr

/-- The model's parameters (00_scope.md section 4). -/
structure Config where
  /-- `P_WINDOW_MS`: the window period in milliseconds; no rule depends on it (R4). -/
  windowMs : Nat
  /-- `P_INITIAL_MODE`: the mode entered at power-on reset (R140). -/
  initialMode : InitialMode
  /-- `P_ADC_BITS`: the width of the battery sample, 1 to 16 (R55). -/
  adcBits : Nat
  /-- `P_SAMPLE_CLEARS_PENDING`: whether a window tick also clears a pending carry (R80). -/
  sampleClearsPending : Bool
  /-- `P_GUARD_LAG`: whether a window tick may capture although the guard is set (R80). -/
  guardLag : Bool
deriving DecidableEq, Repr

/-- The default values of 00_scope.md section 4. -/
def Config.default : Config where
  windowMs := 250
  initialMode := .baseFrequency
  adcBits := 10
  sampleClearsPending := false
  guardLag := false

/-- The range the spec gives a parameter (R55: `P_ADC_BITS` is between 1 and 16). The other ranges are the types'. -/
def Config.valid (c : Config) : Bool := decide (1 ≤ c.adcBits) && decide (c.adcBits ≤ 16)

/-- DESIGN CHOICE (notes/assumptions/5.md): the draw of `capture` by a window tick that finds the guard set under
`P_GUARD_LAG` (R80: "draw capture in {true, false}"). A free value: applied to the state's draw counter, it has no
body, so a proof holds for either choice at every draw. -/
opaque Config.captureDraw : Nat → Bool

end Sys2Proof
end

