-- ==== Sys2Proof/Syntax.lean ====
section
/-! DEFINITION. The operations of the EPC block, one constructor per row of spec/opcode_table.json (30_encoding.md R58),
the agent each belongs to (00_scope.md R2), and the reasons a decoder refuses a word (60_exceptions.md R126). -/

namespace Sys2Proof

/-- The 21 operations (R58). Only ADC_RESULT carries an operand (R51). -/
inductive Instr where
  | rdStatus
  | rdMode
  | rdLfc0
  | rdLfc1
  | rdLfc2
  | rdLfc3
  | rdBatlo
  | rdBathi
  | cmdGuardSet
  | cmdGuardClr
  | cmdOvfClr
  | cmdModeAdv
  | cmdLedOn
  | cmdLedOff
  | evCountEdge
  | evCarryService
  | evWindowTick
  | evBtnDown
  | evBtnUp
  | evAdcResult (v : BitVec 16)
  | evPor
deriving DecidableEq, Repr

/-- The seven agents of 00_scope.md section 2 (R2). -/
inductive Agent where
  | host
  | counterInput
  | carrySequencer
  | windowSampler
  | button
  | analog
  | power
deriving DecidableEq, Repr

/-- The agent whose step an operation is (00_scope.md section 2; the agent column of R57). -/
def Instr.agent : Instr → Agent
  | .rdStatus => .host
  | .rdMode => .host
  | .rdLfc0 => .host
  | .rdLfc1 => .host
  | .rdLfc2 => .host
  | .rdLfc3 => .host
  | .rdBatlo => .host
  | .rdBathi => .host
  | .cmdGuardSet => .host
  | .cmdGuardClr => .host
  | .cmdOvfClr => .host
  | .cmdModeAdv => .host
  | .cmdLedOn => .host
  | .cmdLedOff => .host
  | .evCountEdge => .counterInput
  | .evCarryService => .carrySequencer
  | .evWindowTick => .windowSampler
  | .evBtnDown => .button
  | .evBtnUp => .button
  | .evAdcResult _ => .analog
  | .evPor => .power

/-- The kinds of operation word (R50): host read, host write, block event. -/
inductive OpKind where
  | hostRead
  | hostWrite
  | blockEvent
deriving DecidableEq, Repr

/-- The kind of an operation (the format column of the opcode table). -/
def Instr.kind : Instr → OpKind
  | .rdStatus => .hostRead
  | .rdMode => .hostRead
  | .rdLfc0 => .hostRead
  | .rdLfc1 => .hostRead
  | .rdLfc2 => .hostRead
  | .rdLfc3 => .hostRead
  | .rdBatlo => .hostRead
  | .rdBathi => .hostRead
  | .cmdGuardSet => .hostWrite
  | .cmdGuardClr => .hostWrite
  | .cmdOvfClr => .hostWrite
  | .cmdModeAdv => .hostWrite
  | .cmdLedOn => .hostWrite
  | .cmdLedOff => .hostWrite
  | .evCountEdge => .blockEvent
  | .evCarryService => .blockEvent
  | .evWindowTick => .blockEvent
  | .evBtnDown => .blockEvent
  | .evBtnUp => .blockEvent
  | .evAdcResult _ => .blockEvent
  | .evPor => .blockEvent

/-- The reasons a decoder refuses an operation word (R126). -/
inductive RefusalReason where
  /-- RF1: `W[31:30] = 0b11`. -/
  | reservedKind
  /-- RF2: a field that must be 0 is not. -/
  | reservedField
  /-- RF3: a host access to an address the map does not implement. -/
  | reservedAddress
  /-- RF4: a host read of CMD, or a host write of any other register. -/
  | wrongDirection
  /-- RF5: a write to CMD of a code that is no command. -/
  | reservedCommand
  /-- RF6: an event number that is no event. -/
  | reservedEvent
  /-- RF7: an ADC_RESULT argument of `2^P_ADC_BITS` or more. -/
  | argRange
deriving DecidableEq, Repr

end Sys2Proof
end

