-- ==== Sys2Proof/WellFormed.lean ====
section
/-! DEFINITION. Which operations have a word: every one but an ADC_RESULT whose sample does not fit the battery register
(30_encoding.md R61). -/

namespace Sys2Proof

/-- An operation is well formed for a `P_ADC_BITS` of `adcBits` when its operand is one R61 admits:
`W[15:0] < 2^P_ADC_BITS`. The other operations have no operand (R51). -/
def Instr.wellFormed (adcBits : Nat) : Instr → Bool
  | .rdStatus => true
  | .rdMode => true
  | .rdLfc0 => true
  | .rdLfc1 => true
  | .rdLfc2 => true
  | .rdLfc3 => true
  | .rdBatlo => true
  | .rdBathi => true
  | .cmdGuardSet => true
  | .cmdGuardClr => true
  | .cmdOvfClr => true
  | .cmdModeAdv => true
  | .cmdLedOn => true
  | .cmdLedOff => true
  | .evCountEdge => true
  | .evCarryService => true
  | .evWindowTick => true
  | .evBtnDown => true
  | .evBtnUp => true
  | .evAdcResult v => decide (v.toNat < 2 ^ adcBits)
  | .evPor => true

end Sys2Proof
end

