-- ==== Sys2Proof/Decode.lean ====
section
/-! DEFINITION. The decoder of 30_encoding.md R59, total on all 32-bit words, and the encoder, written from the same
rules (R50, R52, R56, R57). -/

namespace Sys2Proof

/-- `K = W[31:30]` (R50). -/
def fieldK (w : Word) : BitVec 2 := w.extractLsb' 30 2
/-- `Z = W[29:24]` (R50). -/
def fieldZ (w : Word) : BitVec 6 := w.extractLsb' 24 6
/-- `W[23:16]`: the register address `A` or the event number `E` (R50). -/
def fieldA (w : Word) : Byte := w.extractLsb' 16 8
/-- `H = W[15:8]` (R50). -/
def fieldH (w : Word) : Byte := w.extractLsb' 8 8
/-- `D = W[7:0]` (R50). -/
def fieldD (w : Word) : Byte := w.extractLsb' 0 8
/-- `arg = W[15:0]`, the event argument (R51). -/
def fieldArg (w : Word) : BitVec 16 := w.extractLsb' 0 16

/-- The addresses the register map implements (R52, R59). -/
def implementedAddresses : List Byte := [0x00, 0x01, 0x02, 0x04, 0x05, 0x06, 0x07, 0x08, 0x09]

/-- The address of CMD, the one write-only register (R52). -/
def cmdAddress : Byte := 0x02

/-- The read of a readable register (R52), by address. -/
def readOperation (a : Byte) : Option Instr :=
  if a = 0x00 then some .rdStatus
  else if a = 0x01 then some .rdMode
  else if a = 0x04 then some .rdLfc0
  else if a = 0x05 then some .rdLfc1
  else if a = 0x06 then some .rdLfc2
  else if a = 0x07 then some .rdLfc3
  else if a = 0x08 then some .rdBatlo
  else if a = 0x09 then some .rdBathi
  else none

/-- The command of a code (R56). -/
def commandOperation (d : Byte) : Option Instr :=
  if d = 0x01 then some .cmdGuardSet
  else if d = 0x02 then some .cmdGuardClr
  else if d = 0x03 then some .cmdOvfClr
  else if d = 0x04 then some .cmdModeAdv
  else if d = 0x05 then some .cmdLedOn
  else if d = 0x06 then some .cmdLedOff
  else none

/-- The event of a number, with its argument (R57). -/
def eventOperation (e : Byte) (arg : BitVec 16) : Option Instr :=
  if e = 0x01 then some .evCountEdge
  else if e = 0x02 then some .evCarryService
  else if e = 0x03 then some .evWindowTick
  else if e = 0x04 then some .evBtnDown
  else if e = 0x05 then some .evBtnUp
  else if e = 0x06 then some (.evAdcResult arg)
  else if e = 0x07 then some .evPor
  else none

/-- The host-read branch of R59: RF2, RF3, RF4 in this order. -/
def decodeHostRead (w : Word) : Except RefusalReason Instr :=
  if fieldH w ≠ 0 ∨ fieldD w ≠ 0 then .error .reservedField
  else if fieldA w ∉ implementedAddresses then .error .reservedAddress
  else match readOperation (fieldA w) with
    | some i => .ok i
    | none => .error .wrongDirection

/-- The host-write branch of R59: RF2, RF3, RF4, RF5 in this order. -/
def decodeHostWrite (w : Word) : Except RefusalReason Instr :=
  if fieldH w ≠ 0 then .error .reservedField
  else if fieldA w ∉ implementedAddresses then .error .reservedAddress
  else if fieldA w ≠ cmdAddress then .error .wrongDirection
  else match commandOperation (fieldD w) with
    | some i => .ok i
    | none => .error .reservedCommand

/-- The block-event branch of R59: RF6, RF2, RF7 in this order. -/
def decodeBlockEvent (adcBits : Nat) (w : Word) : Except RefusalReason Instr :=
  match eventOperation (fieldA w) (fieldArg w) with
  | none => .error .reservedEvent
  | some i =>
    if fieldA w ≠ 0x06 ∧ fieldArg w ≠ 0 then .error .reservedField
    else if fieldA w = 0x06 ∧ 2 ^ adcBits ≤ (fieldArg w).toNat then .error .argRange
    else .ok i

/-- R59: every word is one of the operations of R58 or a refusal with the first reason reached. -/
def decode (adcBits : Nat) (w : Word) : Except RefusalReason Instr :=
  if fieldK w = 0b11 then .error .reservedKind
  else if fieldZ w ≠ 0 then .error .reservedField
  else if fieldK w = 0b00 then decodeHostRead w
  else if fieldK w = 0b01 then decodeHostWrite w
  else decodeBlockEvent adcBits w

/-- The word with kind `k`, reserved field 0, address or event number `a` and low half `arg` (R50). -/
def operationWord (k : BitVec 2) (a : Byte) (arg : BitVec 16) : Word := k ++ 0#6 ++ a ++ arg

/-- The host read of the register at `a` (R50, R52). -/
def hostReadWord (a : Byte) : Word := operationWord 0b00 a 0
/-- The host write of `d` to the register at `a` (R50, R52). -/
def hostWriteWord (a d : Byte) : Word := operationWord 0b01 a (0#8 ++ d)
/-- The block event `e` with argument `arg` (R50, R57). -/
def blockEventWord (e : Byte) (arg : BitVec 16) : Word := operationWord 0b10 e arg

/-- The operation word of an operation (R52, R56, R57). -/
def encode : Instr → Word
  | .rdStatus => hostReadWord 0x00
  | .rdMode => hostReadWord 0x01
  | .rdLfc0 => hostReadWord 0x04
  | .rdLfc1 => hostReadWord 0x05
  | .rdLfc2 => hostReadWord 0x06
  | .rdLfc3 => hostReadWord 0x07
  | .rdBatlo => hostReadWord 0x08
  | .rdBathi => hostReadWord 0x09
  | .cmdGuardSet => hostWriteWord cmdAddress 0x01
  | .cmdGuardClr => hostWriteWord cmdAddress 0x02
  | .cmdOvfClr => hostWriteWord cmdAddress 0x03
  | .cmdModeAdv => hostWriteWord cmdAddress 0x04
  | .cmdLedOn => hostWriteWord cmdAddress 0x05
  | .cmdLedOff => hostWriteWord cmdAddress 0x06
  | .evCountEdge => blockEventWord 0x01 0
  | .evCarryService => blockEventWord 0x02 0
  | .evWindowTick => blockEventWord 0x03 0
  | .evBtnDown => blockEventWord 0x04 0
  | .evBtnUp => blockEventWord 0x05 0
  | .evAdcResult v => blockEventWord 0x06 v
  | .evPor => blockEventWord 0x07 0

/-- The word whose low `nbits` bits are those of `w` and whose other bits are 0, where that is a 32-bit word. -/
def tableWord (nbits w : Nat) : Option Word :=
  if w % 2 ^ nbits < 2 ^ 32 then some (BitVec.ofNat 32 (w % 2 ^ nbits)) else none

/-- What the decoder reads from a word numbered as spec/opcode_table.json numbers it, with the default parameters
(DESIGN CHOICE, notes/assumptions/16.md). -/
def decodeTableWord (nbits w : Nat) : Option Instr :=
  match tableWord nbits w with
  | none => none
  | some word =>
    match decode Config.default.adcBits word with
    | .ok i => some i
    | .error _ => none

end Sys2Proof
end

