-- ==== Sys2Proof/Machine/State.lean ====
section
/-! DEFINITION. The state of the EPC block (10_state.md R10 to R25), the model's own fields beside it, the two stops of a
step, and the states a run starts in (70_reset_and_hazards.md R141). -/

namespace Sys2Proof.Machine

/-- The spec's fault codes (60_exceptions.md R125): entries of the record `faults`. Recording one does not stop the
machine (R128). -/
inductive FaultCode where
  /-- F1 CARRY_LOST: a counted edge wrapped `hw` while a carry was still pending (R70). -/
  | carryLost
deriving DecidableEq, Repr

/-- What the latest transition answered to the outside (DESIGN CHOICE, notes/assumptions/10.md). -/
inductive Response where
  /-- Nothing: no byte was returned and no word refused. -/
  | silent
  /-- The byte a host read returned (00_scope.md section 6, `return d`). -/
  | data (d : Byte)
  /-- The operation word was refused, with the first reason reached (R59). -/
  | refusal (r : RefusalReason)
deriving DecidableEq, Repr

/-- Why the machine stops with no transition. -/
inductive Fault where
  /-- Raised by the meaning of CARRY_SERVICE, WINDOW_TICK, ADC_RESULT, BTN_DOWN or BTN_UP where the operation is not
  enabled: "has no step" (R129). A stuck state, safe: no claim is made of what the spec says cannot occur. -/
  | noStep
  /-- Raised by `step` when no operation word is scheduled. Safe: the run ends, and nothing is claimed of a transition
  nobody proposed (notes/assumptions/3.md). -/
  | scheduleEnd
deriving DecidableEq, Repr

/-- Why the model gives an instruction no meaning. A word the decoder refuses is not one of these: R127 gives it an
effect, and `step` answers a next state. -/
inductive Refusal where
  /-- Raised by an arm of `exec` that has no meaning yet; no arm of this model raises it. Safe. -/
  | notModelled (mnemonic : String)
deriving DecidableEq, Repr

/-- The state: the spec's elements first (10_state.md, in the order of its summary table), then the model's own. -/
structure State where
  /-- The hardware counter byte, bits 7:0 of the extended count (R10). -/
  hw : Byte
  /-- Carry byte 1, bits 15:8 of the extended count (R11). -/
  c1 : Byte
  /-- Carry byte 2, bits 23:16 (R11). -/
  c2 : Byte
  /-- Carry byte 3, bits 31:24 (R11). -/
  c3 : Byte
  /-- The pending carry request (R13). -/
  pend : Bool
  /-- The Overflow Flag (R14). -/
  ovf : Bool
  /-- The Reading Guard (R15). -/
  guard : Bool
  /-- Last Full Count (R16). -/
  lfc : Word
  /-- The mode register: 0 BaseFrequency, 1 ExtraFrequency, 2 BatteryVoltage; 3 is never reached (R17). -/
  mode : BitVec 2
  /-- `psc_en`, the external prescaler output (R18). -/
  pscEn : Bool
  /-- `ext_en`, the carry service enable (R19). -/
  extEn : Bool
  /-- `smp_en`, the window timer and sampler enable (R19). -/
  smpEn : Bool
  /-- `adc_en`, the analog sampling output (R20). -/
  adcEn : Bool
  /-- The indicator output (R21). -/
  led : Bool
  /-- `btn_n`, the button input level: false pressed, true released (R22). -/
  btnN : Bool
  /-- The battery sample, `zext_16(bat)` of R55 (R23). DEDUCED (notes/assumptions/8.md). -/
  bat : BitVec 16
  /-- The model's fault record (R24), a set held as a list with no repeats (notes/assumptions/11.md). -/
  faults : List FaultCode
  /-- The model's refusal mark (R25). -/
  refused : Bool
  /-- The model's own: the parameters, which no transition writes (notes/assumptions/4.md). -/
  cfg : Config
  /-- The model's own: the operation words still to be performed, the next one first (notes/assumptions/3.md). -/
  schedule : List Word
  /-- The model's own: what the latest transition answered (notes/assumptions/10.md). -/
  resp : Response
  /-- The model's own: the counter of the free value `Config.captureDraw` (notes/assumptions/6.md). -/
  draws : Nat
deriving DecidableEq, Repr

/-- The outcome of one operation or one step. -/
abbrev Result := Host.Outcome State Fault Refusal

/-- The mode number of BaseFrequency (R17). -/
abbrev baseFrequency : BitVec 2 := 0
/-- The mode number of ExtraFrequency (R17). -/
abbrev extraFrequency : BitVec 2 := 1
/-- The mode number of BatteryVoltage (R17). -/
abbrev batteryVoltage : BitVec 2 := 2

/-- The state a model run starts in (R141): the state power-on reset produces under the parameters `c`, with the button
level `button` drawn from {0, 1}, no fault recorded and no word refused. Nothing is scheduled or answered yet. -/
def State.start (c : Config) (button : Bool) : State where
  hw := 0
  c1 := 0
  c2 := 0
  c3 := 0
  pend := false
  ovf := false
  guard := false
  lfc := 0
  mode := match c.initialMode with
    | .baseFrequency => baseFrequency
    | .extraFrequency => extraFrequency
  pscEn := match c.initialMode with
    | .baseFrequency => false
    | .extraFrequency => true
  extEn := true
  smpEn := true
  adcEn := false
  led := false
  btnN := button
  bat := 0
  faults := []
  refused := false
  cfg := c
  schedule := []
  resp := .silent
  draws := 0

/-- The machine right after reset: the default parameters, and the button released as in the spec's reference state S0
(the button level is a DESIGN CHOICE, notes/assumptions/7.md). -/
def State.reset : State := State.start Config.default true

end Sys2Proof.Machine
end

