-- ==== Sys2Proof/Machine/Operands.lean ====
section
/-! DEFINITION. The values the block forms from its state: the extended count (10_state.md R12) and the bytes of the host
registers (30_encoding.md R52 to R55, 20_memory.md R31). None of them is stored. -/

namespace Sys2Proof.Machine

/-- `inc8(v) = (v + 1) mod 256` (00_scope.md section 6). -/
def inc8 (v : Byte) : Byte := v + 1

/-- Byte `k` of Last Full Count, `lfc[8k+7:8k]` (R31). -/
def State.lfcByte (s : State) (k : Nat) : Byte := s.lfc.extractLsb' (8 * k) 8

/-- `EC = {c3, c2, c1, hw}` (R12). -/
def State.extendedCount (s : State) : Word := s.c3 ++ s.c2 ++ s.c1 ++ s.hw

/-- STATUS, `{led, adc_en, smp_en, ext_en, psc_en, btn_n, guard, ovf}` (R53, R100). -/
def State.statusByte (s : State) : Byte :=
  BitVec.ofBool s.led ++ BitVec.ofBool s.adcEn ++ BitVec.ofBool s.smpEn ++ BitVec.ofBool s.extEn
    ++ BitVec.ofBool s.pscEn ++ BitVec.ofBool s.btnN ++ BitVec.ofBool s.guard ++ BitVec.ofBool s.ovf

/-- MODE, `zext_8(mode)` (R54, R101). -/
def State.modeByte (s : State) : Byte := s.mode.setWidth 8

/-- BATLO, `zext_16(bat)[7:0]` (R55, R97). -/
def State.batteryLow (s : State) : Byte := s.bat.extractLsb' 0 8

/-- BATHI, `zext_16(bat)[15:8]` (R55, R98). -/
def State.batteryHigh (s : State) : Byte := s.bat.extractLsb' 8 8

/-- `v[P_ADC_BITS-1:0]`, zero-extended to 16 bits (R96, R61). -/
def sampleBits (adcBits : Nat) (v : BitVec 16) : BitVec 16 := BitVec.ofNat 16 (v.toNat % 2 ^ adcBits)

/-- The successor of a mode, `(m + 1) mod 3` (R90). -/
def nextMode (m : BitVec 2) : BitVec 2 := BitVec.ofNat 2 ((m.toNat + 1) % 3)

/-- The mode number of `P_INITIAL_MODE` (R17, R140). -/
def initialModeNumber : InitialMode → BitVec 2
  | .baseFrequency => baseFrequency
  | .extraFrequency => extraFrequency

end Sys2Proof.Machine
end

