-- ==== Sys2Proof/Machine/Flags.lean ====
section
/-! DEFINITION. The writes of the one-bit flags, latches and outputs: the Overflow Flag and the Reading Guard
(10_state.md R14, R15, two independent bits), the pending carry (R13), the indicator (R21) and the button level (R22). -/

namespace Sys2Proof.Machine

/-- `ovf <- 0` (R102). -/
def State.clearOverflow (s : State) : State := { s with ovf := false }

/-- `guard <- b` (R81, R82). -/
def State.setGuard (s : State) (b : Bool) : State := { s with guard := b }

/-- `led <- b` (R103, R104). -/
def State.setLed (s : State) (b : Bool) : State := { s with led := b }

/-- `btn_n <- b` (R105, R106). -/
def State.setButton (s : State) (b : Bool) : State := { s with btnN := b }

/-- `pend <- b` (R70, R71, R80, R94). -/
def State.setPending (s : State) (b : Bool) : State := { s with pend := b }

end Sys2Proof.Machine
end

