-- ==== Sys2Proof/Machine/Ops.lean ====
section
/-! DEFINITION. The shared operations over the state: taking the next scheduled word, answering the host, refusing a word,
recording a fault, the clear and the setup of the count, and the entry actions of the modes. The block takes no
exception and has no vector, saved register or return (60_exceptions.md R120, R130): what the spec has in their place is
the fault record (R128) and the refusal mark (R127). -/

namespace Sys2Proof.Machine

/-- The transition begins: the scheduled words are now `rest`, and nothing has been answered yet. -/
def State.begin (s : State) (rest : List Word) : State := { s with schedule := rest, resp := .silent }

/-- `return d`: the host receives `d`, and no block state changes (00_scope.md section 6, 20_memory.md R34). -/
def State.answer (s : State) (d : Byte) : State := { s with resp := .data d }

/-- `refuse(r)`: no block state changes, the sticky mark is set, and the reason is reported (R127, R59). -/
def State.refuse (s : State) (r : RefusalReason) : State := { s with refused := true, resp := .refusal r }

/-- `raise Fault(f)`: adds the code to the record and continues (R128). -/
def State.raiseFault (s : State) (f : FaultCode) : State :=
  { s with faults := if f ∈ s.faults then s.faults else f :: s.faults }

/-- An operation that is not enabled has no step (R129). -/
def stuck : Result := .fault .noStep

/-- `hw <- 0`, `c1 <- 0`, `c2 <- 0`, `c3 <- 0` (R80, R94). -/
def State.zeroCount (s : State) : State := { s with hw := 0, c1 := 0, c2 := 0, c3 := 0 }

/-- The counter and timer setup (R94). The restart of the window timer has no state in the untimed model. -/
def State.setup (s : State) : State := s.zeroCount.setPending false

/-- One carry into the carry bytes (R71): `c1` is incremented, `c2` when `c1` wrapped, `c3` when `c2` wrapped too, and `ovf` is
set when `c3` wrapped. Each test reads the value just written. -/
def State.rippleCarry (s : State) : State :=
  let c1 := inc8 s.c1
  let c2 := if c1 = 0 then inc8 s.c2 else s.c2
  let c3 := if c1 = 0 ∧ c2 = 0 then inc8 s.c3 else s.c3
  { s with
    c1 := c1
    c2 := c2
    c3 := c3
    ovf := if c1 = 0 ∧ c2 = 0 ∧ c3 = 0 then true else s.ovf }

/-- A tick draws only when the guard is set under `P_GUARD_LAG` (R80). -/
def State.takesDraw (s : State) : Bool := s.guard && s.cfg.guardLag

/-- Whether this tick captures (R80): always with the guard clear; with it set only by a draw under `P_GUARD_LAG`. -/
def State.captures (s : State) : Bool :=
  if s.guard then s.cfg.guardLag && Config.captureDraw s.draws else true

/-- `if capture: lfc <- {c3, c2, c1, hw}` (R80), and the draw counter moves on when a draw was taken. -/
def State.capture (s : State) : State :=
  { s with
    lfc := if s.captures then s.extendedCount else s.lfc
    draws := if s.takesDraw then s.draws + 1 else s.draws }

/-- The entry action of BaseFrequency (R91). -/
def State.enterBaseFrequency (s : State) : State :=
  { s.setup with pscEn := false, extEn := true, smpEn := true, adcEn := false }

/-- The entry action of ExtraFrequency (R92). -/
def State.enterExtraFrequency (s : State) : State :=
  { s.setup with pscEn := true, extEn := true, smpEn := true, adcEn := false }

/-- The entry action of BatteryVoltage (R93): the prescaler output and the count stay as they are. -/
def State.enterBatteryVoltage (s : State) : State :=
  { s with extEn := false, smpEn := false, adcEn := true }

/-- The entry action of the mode the register now holds (R95, R140). A mode number 3 has none. -/
def State.enterMode (s : State) : State :=
  if s.mode = baseFrequency then s.enterBaseFrequency
  else if s.mode = extraFrequency then s.enterExtraFrequency
  else if s.mode = batteryVoltage then s.enterBatteryVoltage
  else s

/-- `mode <- next(mode)` and the entry action, one atomic transition (R95). -/
def State.advanceMode (s : State) : State := { s with mode := nextMode s.mode }.enterMode

/-- Power-on reset (R140). `btn_n`, `faults` and `refused` are not changed, nor is anything that is the model's own. -/
def State.powerOn (s : State) : State :=
  { s with
    hw := 0, c1 := 0, c2 := 0, c3 := 0, pend := false, ovf := false, guard := false, lfc := 0, led := false, bat := 0
    mode := initialModeNumber s.cfg.initialMode }.enterMode

end Sys2Proof.Machine
end

