-- ==== Sys2Proof/Machine/Counter.lean ====
section
/-! DEFINITION. The extended pulse counter (40_counter.md): COUNT_EDGE and CARRY_SERVICE. -/

namespace Sys2Proof.Machine

/-- A wrap of `hw` (R70): `hw <- 0`, F1 where a carry is pending already, and the request is latched. -/
def State.wrapCounter (s : State) : State :=
  { (if s.pend then s.raiseFault .carryLost else s) with hw := 0, pend := true }

/-- COUNT_EDGE (R70). Always enabled; with `ext_en = 0` the counter is halted and nothing changes. -/
def execCountEdge (s : State) : Result :=
  .next (if s.extEn then (if s.hw = 255 then s.wrapCounter else { s with hw := inc8 s.hw }) else s)

/-- CARRY_SERVICE (R71). Enabled when `pend = 1` and `ext_en = 1`. -/
def execCarryService (s : State) : Result :=
  if s.pend && s.extEn then .next (s.setPending false).rippleCarry else stuck

end Sys2Proof.Machine
end

