-- ==== Sys2Proof/Machine/HostStatus.lean ====
section
/-! DEFINITION. Status, overflow clear, indicator and button (43_host_status.md). -/

namespace Sys2Proof.Machine

/-- rd STATUS (R100). The read does not clear `ovf`. -/
def execRdStatus (s : State) : Result := .next (s.answer s.statusByte)

/-- rd MODE (R101). -/
def execRdMode (s : State) : Result := .next (s.answer s.modeByte)

/-- OVF_CLR (R102). -/
def execOvfClr (s : State) : Result := .next s.clearOverflow

/-- LED_ON (R103). -/
def execLedOn (s : State) : Result := .next (s.setLed true)

/-- LED_OFF (R104). -/
def execLedOff (s : State) : Result := .next (s.setLed false)

/-- BTN_DOWN (R105). Enabled when `btn_n = 1`. -/
def execBtnDown (s : State) : Result := if s.btnN then .next (s.setButton false) else stuck

/-- BTN_UP (R106). Enabled when `btn_n = 0`. -/
def execBtnUp (s : State) : Result := if s.btnN then stuck else .next (s.setButton true)

end Sys2Proof.Machine
end

