-- ==== Sys2Proof/Machine/ModeFsm.lean ====
section
/-! DEFINITION. The mode FSM and the battery sample (42_mode_fsm.md): MODE_ADV, ADC_RESULT, and the reads of the sample. -/

namespace Sys2Proof.Machine

/-- MODE_ADV (R95). -/
def execModeAdv (s : State) : Result := .next s.advanceMode

/-- ADC_RESULT (R96). Enabled when `adc_en = 1`; the guard has no effect on it. -/
def execAdcResult (v : BitVec 16) (s : State) : Result :=
  if s.adcEn then .next { s with bat := sampleBits s.cfg.adcBits v } else stuck

/-- rd BATLO (R97). -/
def execRdBatlo (s : State) : Result := .next (s.answer s.batteryLow)

/-- rd BATHI (R98). -/
def execRdBathi (s : State) : Result := .next (s.answer s.batteryHigh)

end Sys2Proof.Machine
end

