-- ==== Sys2Proof/Machine/Reset.lean ====
section
/-! DEFINITION. Power-on reset (70_reset_and_hazards.md). -/

namespace Sys2Proof.Machine

/-- POR (R140). Always enabled. -/
def execPor (s : State) : Result := .next s.powerOn

end Sys2Proof.Machine
end

