-- ==== Sys2Proof/Machine/Sampler.lean ====
section
/-! DEFINITION. The snapshot sampler and the reading guard (41_sampler.md): WINDOW_TICK, GUARD_SET, GUARD_CLR and the
reads of Last Full Count. -/

namespace Sys2Proof.Machine

/-- WINDOW_TICK (R80). Enabled when `smp_en = 1`: a guarded capture, then the unconditional clear, in one transition. -/
def execWindowTick (s : State) : Result :=
  if s.smpEn then
    let t := s.capture.zeroCount
    .next (if t.cfg.sampleClearsPending then t.setPending false else t)
  else stuck

/-- GUARD_SET (R81). -/
def execGuardSet (s : State) : Result := .next (s.setGuard true)

/-- GUARD_CLR (R82). -/
def execGuardClr (s : State) : Result := .next (s.setGuard false)

/-- rd LFC0 (R83): `lfc[7:0]`, whatever the guard. -/
def execRdLfc0 (s : State) : Result := .next (s.answer (s.lfcByte 0))

/-- rd LFC1 (R84): `lfc[15:8]`. -/
def execRdLfc1 (s : State) : Result := .next (s.answer (s.lfcByte 1))

/-- rd LFC2 (R85): `lfc[23:16]`. -/
def execRdLfc2 (s : State) : Result := .next (s.answer (s.lfcByte 2))

/-- rd LFC3 (R86): `lfc[31:24]`. -/
def execRdLfc3 (s : State) : Result := .next (s.answer (s.lfcByte 3))

end Sys2Proof.Machine
end

