-- ==== Sys2Proof/Machine/Dispatch.lean ====
section
/-! DEFINITION. One arm per operation: each calls the operation's own meaning. -/

namespace Sys2Proof.Machine

def exec (i : Instr) (s : State) : Host.Outcome State Fault Refusal :=
  match i with
  | .rdStatus => Sys2Proof.Machine.execRdStatus s
  | .rdMode => Sys2Proof.Machine.execRdMode s
  | .rdLfc0 => Sys2Proof.Machine.execRdLfc0 s
  | .rdLfc1 => Sys2Proof.Machine.execRdLfc1 s
  | .rdLfc2 => Sys2Proof.Machine.execRdLfc2 s
  | .rdLfc3 => Sys2Proof.Machine.execRdLfc3 s
  | .rdBatlo => Sys2Proof.Machine.execRdBatlo s
  | .rdBathi => Sys2Proof.Machine.execRdBathi s
  | .cmdGuardSet => Sys2Proof.Machine.execGuardSet s
  | .cmdGuardClr => Sys2Proof.Machine.execGuardClr s
  | .cmdOvfClr => Sys2Proof.Machine.execOvfClr s
  | .cmdModeAdv => Sys2Proof.Machine.execModeAdv s
  | .cmdLedOn => Sys2Proof.Machine.execLedOn s
  | .cmdLedOff => Sys2Proof.Machine.execLedOff s
  | .evCountEdge => Sys2Proof.Machine.execCountEdge s
  | .evCarryService => Sys2Proof.Machine.execCarryService s
  | .evWindowTick => Sys2Proof.Machine.execWindowTick s
  | .evBtnDown => Sys2Proof.Machine.execBtnDown s
  | .evBtnUp => Sys2Proof.Machine.execBtnUp s
  | .evAdcResult v => Sys2Proof.Machine.execAdcResult v s
  | .evPor => Sys2Proof.Machine.execPor s

end Sys2Proof.Machine
end

