-- ==== Sys2Proof/Machine/Step.lean ====
section
/-! DEFINITION. One step: the next scheduled operation word is taken, decoded and performed (00_scope.md R5, 30_encoding.md
R50, R59). The block fetches no instruction (20_memory.md R38): the schedule stands for the agents' choices. -/

namespace Sys2Proof.Machine

/-- One step. A word the decoder refuses sets the refusal mark and changes no block state (60_exceptions.md R127); a decoded
operation is performed by `exec`. With nothing scheduled there is no transition to take. -/
def step (s : State) : Host.Outcome State Fault Refusal :=
  match s.schedule with
  | [] => .fault .scheduleEnd
  | w :: rest =>
    match decode s.cfg.adcBits w with
    | .error r => .next ((s.begin rest).refuse r)
    | .ok i => exec i (s.begin rest)

/-- The state with the word `w` scheduled next, before whatever is scheduled already. A word of more than 32 bits is no
operation word (R50) and leaves the state alone. -/
def State.withFetchWord (s : State) (nbits w : Nat) : State :=
  match tableWord nbits w with
  | none => s
  | some word => { s with schedule := word :: s.schedule }

end Sys2Proof.Machine
end

