-- ==== Sys2Proof/Machine/Asm.lean ====
section
/-! DEFINITION. The source text of a schedule (30_encoding.md R62) and the pseudo-instructions (R63): what a line means as
operation words. A program text is one proposed run, an interleaving of host operations and block events. -/

namespace Sys2Proof.Machine

/-- The pseudo-instructions (R63). -/
inductive Pseudo where
  | edges (n : Nat)
  | readLfc
  | readBat
  | press
deriving DecidableEq, Repr

/-- The expansion of a pseudo-instruction (R63). -/
def Pseudo.operations : Pseudo → List Instr
  | .edges n => List.replicate n .evCountEdge
  | .readLfc => [.cmdGuardSet, .rdLfc0, .rdLfc1, .rdLfc2, .rdLfc3, .cmdGuardClr]
  | .readBat => [.cmdGuardSet, .rdBatlo, .rdBathi, .cmdGuardClr]
  | .press => [.evBtnDown, .evBtnUp, .cmdModeAdv]

/-- One line of a program text: an operation, a raw word, or a pseudo-instruction (R62, R63). -/
inductive SourceLine where
  | operation (i : Instr)
  | word (w : Word)
  | pseudo (p : Pseudo)
deriving DecidableEq, Repr

/-- The operation words of a line. -/
def SourceLine.words : SourceLine → List Word
  | .operation i => [encode i]
  | .word w => [w]
  | .pseudo p => p.operations.map encode

/-- The registers a `rd` line names (R62). -/
def readNames : List (List Char × Instr) :=
  [("STATUS".toList, .rdStatus), ("MODE".toList, .rdMode), ("LFC0".toList, .rdLfc0), ("LFC1".toList, .rdLfc1),
   ("LFC2".toList, .rdLfc2), ("LFC3".toList, .rdLfc3), ("BATLO".toList, .rdBatlo), ("BATHI".toList, .rdBathi)]

/-- The commands a `cmd` line names (R62). -/
def commandNames : List (List Char × Instr) :=
  [("GUARD_SET".toList, .cmdGuardSet), ("GUARD_CLR".toList, .cmdGuardClr), ("OVF_CLR".toList, .cmdOvfClr),
   ("MODE_ADV".toList, .cmdModeAdv), ("LED_ON".toList, .cmdLedOn), ("LED_OFF".toList, .cmdLedOff)]

/-- The events without an argument that an `ev` line names (R62). -/
def eventNames : List (List Char × Instr) :=
  [("COUNT_EDGE".toList, .evCountEdge), ("CARRY_SERVICE".toList, .evCarryService),
   ("WINDOW_TICK".toList, .evWindowTick), ("BTN_DOWN".toList, .evBtnDown), ("BTN_UP".toList, .evBtnUp),
   ("POR".toList, .evPor)]

/-- The pseudo-instructions without an argument (R63). -/
def pseudoNames : List (List Char × Pseudo) :=
  [("read_lfc".toList, .readLfc), ("read_bat".toList, .readBat), ("press".toList, .press)]

/-- The value of a digit in `base` (10 or 16). -/
def digitValue (base : Nat) (c : Char) : Option Nat :=
  let n := c.toNat
  let v :=
    if 48 ≤ n ∧ n ≤ 57 then n - 48
    else if 65 ≤ n ∧ n ≤ 70 then n - 55
    else if 97 ≤ n ∧ n ≤ 102 then n - 87
    else base
  if v < base then some v else none

/-- The number a list of digits writes, after `acc`. -/
def digitsValue (base acc : Nat) : List Char → Option Nat
  | [] => some acc
  | c :: cs =>
    match digitValue base c with
    | some v => digitsValue base (base * acc + v) cs
    | none => none

/-- A hexadecimal number, `0x` and at least one digit (R62). -/
def hexNumber : List Char → Option Nat
  | '0' :: 'x' :: c :: cs => digitsValue 16 0 (c :: cs)
  | _ => none

/-- A number, "decimal or 0x-hex" (R62). -/
def number (cs : List Char) : Option Nat :=
  match hexNumber cs with
  | some n => some n
  | none => if cs = [] then none else digitsValue 10 0 cs

/-- The tokens of a line, split at blanks; `;` starts a comment (R62). `cur` is the token read so far, last character
first. -/
def tokensFrom (cur : List Char) : List Char → List (List Char)
  | [] => if cur = [] then [] else [cur.reverse]
  | c :: cs =>
    if c = ';' then (if cur = [] then [] else [cur.reverse])
    else if c = ' ' ∨ c = '\t' then (if cur = [] then tokensFrom [] cs else cur.reverse :: tokensFrom [] cs)
    else tokensFrom (c :: cur) cs

/-- What the tokens of one line mean: `none` is no line of the syntax, `some none` a line with no operation (R62, R63). -/
def parseTokens (adcBits : Nat) : List (List Char) → Option (Option SourceLine)
  | [] => some none
  | [p] => (pseudoNames.lookup p).map fun x => some (.pseudo x)
  | [k, n] =>
    if k = "rd".toList then (readNames.lookup n).map fun i => some (.operation i)
    else if k = "cmd".toList then (commandNames.lookup n).map fun i => some (.operation i)
    else if k = "ev".toList then (eventNames.lookup n).map fun i => some (.operation i)
    else if k = "edges".toList then (number n).map fun x => some (.pseudo (.edges x))
    else if k = ".word".toList then
      match hexNumber n with
      | some x => if x < 2 ^ 32 then some (some (.word (BitVec.ofNat 32 x))) else none
      | none => none
    else none
  | [k, e, n] =>
    if k = "ev".toList ∧ e = "ADC_RESULT".toList then
      match number n with
      | some x =>
        if x < 2 ^ adcBits ∧ x < 2 ^ 16 then some (some (.operation (.evAdcResult (BitVec.ofNat 16 x)))) else none
      | none => none
    else none
  | _ => none

/-- One line of text (R62). -/
def parseLine (adcBits : Nat) (line : List Char) : Option (Option SourceLine) := parseTokens adcBits (tokensFrom [] line)

/-- The schedule a program text stands for: the words of its lines, in order (R62). -/
def assemble (adcBits : Nat) : List (List Char) → Option (List Word)
  | [] => some []
  | l :: ls =>
    match parseLine adcBits l, assemble adcBits ls with
    | some (some x), some ws => some (x.words ++ ws)
    | some none, some ws => some ws
    | _, _ => none

end Sys2Proof.Machine
end

