-- ==== Sys2Proof/Machine/Port.lean ====
section
/-! DEFINITION. The host port as the register map gives it (30_encoding.md R52 to R56, 20_memory.md R30): `MemRead(a, 1)` and
`MemWrite(a, 1, d)` of 00_scope.md section 6, total over all 256 addresses. It is the port's own description, beside the
operation words; that `step` agrees with it is stated, not assumed. -/

namespace Sys2Proof.Machine

/-- `MemRead(a, 1)`: the byte the host receives from address `a`, or why the access is refused (R52, R126). -/
def State.hostRead (s : State) (a : Byte) : Except RefusalReason Byte :=
  if a = 0x00 then .ok s.statusByte
  else if a = 0x01 then .ok s.modeByte
  else if a = 0x02 then .error .wrongDirection
  else if a = 0x04 then .ok (s.lfcByte 0)
  else if a = 0x05 then .ok (s.lfcByte 1)
  else if a = 0x06 then .ok (s.lfcByte 2)
  else if a = 0x07 then .ok (s.lfcByte 3)
  else if a = 0x08 then .ok s.batteryLow
  else if a = 0x09 then .ok s.batteryHigh
  else .error .reservedAddress

/-- The command register's effect for a code (R56). -/
def State.command (s : State) (d : Byte) : Except RefusalReason State :=
  if d = 0x01 then .ok (s.setGuard true)
  else if d = 0x02 then .ok (s.setGuard false)
  else if d = 0x03 then .ok s.clearOverflow
  else if d = 0x04 then .ok s.advanceMode
  else if d = 0x05 then .ok (s.setLed true)
  else if d = 0x06 then .ok (s.setLed false)
  else .error .reservedCommand

/-- `MemWrite(a, 1, d)`: the state after the host writes `d` to address `a`, or why the access is refused (R52, R56, R126). -/
def State.hostWrite (s : State) (a d : Byte) : Except RefusalReason State :=
  if a = 0x02 then s.command d
  else if a = 0x03 ∨ 0x0A ≤ a.toNat then .error .reservedAddress
  else .error .wrongDirection

end Sys2Proof.Machine
end

