-- ==== Sys2Proof/Safety.lean ====
section
/-! DEFINITION. The terms claims are stated in: when an operation is enabled (60_exceptions.md R129), runs (00_scope.md R5),
the invariants of 10_state.md R27, what a window is (40_counter.md R73), fairness (R133) and the premise of a trusted
run (R128). -/

namespace Sys2Proof.Machine

/-- When an operation is enabled (the "enabled when" line of each instruction rule; R129). -/
def enabled (i : Instr) (s : State) : Bool :=
  match i with
  | .rdStatus => true
  | .rdMode => true
  | .rdLfc0 => true
  | .rdLfc1 => true
  | .rdLfc2 => true
  | .rdLfc3 => true
  | .rdBatlo => true
  | .rdBathi => true
  | .cmdGuardSet => true
  | .cmdGuardClr => true
  | .cmdOvfClr => true
  | .cmdModeAdv => true
  | .cmdLedOn => true
  | .cmdLedOff => true
  | .evCountEdge => true
  | .evCarryService => s.pend && s.extEn
  | .evWindowTick => s.smpEn
  | .evBtnDown => s.btnN
  | .evBtnUp => !s.btnN
  | .evAdcResult _ => s.adcEn
  | .evPor => true

/-- One transition of a run: the operation, with nothing answered yet. The schedule plays no part. -/
def perform (i : Instr) (s : State) : Result := exec i (s.begin s.schedule)

/-- A transition as it was taken: the state before, the operation and the state after. -/
structure Transition where
  pre : State
  op : Instr
  post : State
deriving DecidableEq, Repr

/-- A finite run (R5): each transition is taken in the state the one before it left. -/
inductive Run : State → List Transition → State → Prop where
  | nil (s : State) : Run s [] s
  | cons (s t u : State) (i : Instr) (rest : List Transition) (first : perform i s = .next t) (tail : Run t rest u) :
      Run s (⟨s, i, t⟩ :: rest) u

/-- How many transitions of a run perform the operation `i`. -/
def timesOf (i : Instr) (run : List Transition) : Nat := run.countP fun tr => tr.op = i

/-- The transition is an edge the counter counts (R73: a COUNT_EDGE with `ext_en = 1`). -/
def Transition.countsEdge (tr : Transition) : Bool := decide (tr.op = .evCountEdge) && tr.pre.extEn

/-- The transition raises F1: a counted edge that wraps `hw` while a carry is pending (R125). -/
def Transition.losesCarry (tr : Transition) : Bool := tr.countsEdge && decide (tr.pre.hw = 255) && tr.pre.pend

/-- The transition runs the counter setup: an entry to a frequency mode by MODE_ADV (R94, R95). -/
def Transition.runsSetup (tr : Transition) : Bool :=
  decide (tr.op = .cmdModeAdv) && (decide (tr.post.mode = baseFrequency) || decide (tr.post.mode = extraFrequency))

/-- The transition starts a window (R73): a window tick, a setup, or power-on reset. -/
def Transition.startsWindow (tr : Transition) : Bool :=
  decide (tr.op = .evWindowTick) || tr.runsSetup || decide (tr.op = .evPor)

/-- The transition is a carry service that wraps `c3` (R71, R107). -/
def Transition.wrapsCount (tr : Transition) : Bool :=
  decide (tr.op = .evCarryService) && decide (tr.pre.c1 = 255) && decide (tr.pre.c2 = 255) && decide (tr.pre.c3 = 255)

/-- The invariants of every reachable state: R27 (a) to (f), with the parameters in their range, the battery sample in its
width (R23) and the fault record a set (R24). -/
structure Inv (s : State) : Prop where
  /-- R55: `P_ADC_BITS` is between 1 and 16. -/
  parameters : s.cfg.valid = true
  /-- R27 (a). -/
  enablesAgree : s.extEn = s.smpEn
  /-- R27 (b). -/
  measuring : s.extEn = true ↔ s.mode = baseFrequency ∨ s.mode = extraFrequency
  /-- R27 (c). -/
  sampling : s.adcEn = true ↔ s.mode = batteryVoltage
  /-- R27 (d). -/
  legalMode : s.mode ≠ 3
  /-- R27 (e), first half. -/
  prescalerInExtra : s.mode = extraFrequency → s.pscEn = true
  /-- R27 (e), second half. -/
  noPrescalerInBase : s.mode = baseFrequency → s.pscEn = false
  /-- R27 (f). -/
  prescalerInBattery : s.mode = batteryVoltage → s.pscEn = true
  /-- R23: `bat` has `P_ADC_BITS` bits. -/
  sampleFits : s.bat.toNat < 2 ^ s.cfg.adcBits
  /-- R24: `faults` is a set. -/
  faultsAreASet : s.faults.Nodup

/-- The premise a claim about a run takes (R128, R127): no fault recorded and no word refused. -/
def State.trusted (s : State) : Bool := decide (s.faults = []) && !s.refused

/-- An infinite run (R5): `op n` leads from state `n` to state `n + 1`. -/
def InfiniteRun (st : Nat → State) (op : Nat → Instr) : Prop := ∀ n, perform (op n) (st n) = .next (st (n + 1))

/-- The block's own agents are fair in a run (R133): a carry service that stays enabled occurs, and while the window timer
stays enabled ticks occur infinitely often. -/
structure FairRun (st : Nat → State) (op : Nat → Instr) : Prop where
  carry : ∀ n, (∀ m, n ≤ m → (st m).pend = true ∧ (st m).extEn = true) → ∃ m, n ≤ m ∧ op m = .evCarryService
  tick : (∃ n, ∀ m, n ≤ m → (st m).smpEn = true) → ∀ n, ∃ m, n ≤ m ∧ op m = .evWindowTick

end Sys2Proof.Machine
end

