-- ==== Sys2Proof/Certificates/Slice0/Obligations.lean ====
section
/-! DEFINITION. The statements for the provers. Each names the rule of spec/ it formalises; where it rests on a choice of the
model's own, its docstring names the log entry. -/

open Sys2Proof Sys2Proof.Machine

/-! ## Operation words -/

/-- Words written out from R50, R52, R56 and R57, one or more of each kind, decode to the operations they stand for. -/
def Obligations.WrittenWordsDecodeToTheirOperations : Prop :=
  decode 10 0b00000000000000000000000000000000 = .ok .rdStatus
    ∧ decode 10 0b00000000000001110000000000000000 = .ok .rdLfc3
    ∧ decode 10 0b01000000000000100000000000000100 = .ok .cmdModeAdv
    ∧ decode 10 0b10000000000000110000000000000000 = .ok .evWindowTick
    ∧ decode 10 0b10000000000001100000001011001101 = .ok (.evAdcResult 717)
    ∧ decode 10 0b10000000000001110000000000000000 = .ok .evPor

/-- Decoding the word of an operation gives the operation back, with every operand R61 admits. -/
def Obligations.DecodeOfEncodeIsTheOperation : Prop :=
  ∀ (n : Nat) (i : Instr), i.wellFormed n = true → decode n (encode i) = .ok i

/-- R58: the words a decoder accepts are exactly the patterns of its table, each read as its own mnemonic; an ADC_RESULT
argument must be below `2^P_ADC_BITS` (R61). -/
def Obligations.DefinedWordsAreExactlyTheTwentyOnePatterns : Prop :=
  ∀ (n : Nat) (w : Word) (i : Instr),
    decode n w = .ok i ↔
      ((w, i) ∈ [((0x00000000 : Word), Instr.rdStatus), (0x00010000, .rdMode), (0x00040000, .rdLfc0),
          (0x00050000, .rdLfc1), (0x00060000, .rdLfc2), (0x00070000, .rdLfc3), (0x00080000, .rdBatlo),
          (0x00090000, .rdBathi), (0x40020001, .cmdGuardSet), (0x40020002, .cmdGuardClr), (0x40020003, .cmdOvfClr),
          (0x40020004, .cmdModeAdv), (0x40020005, .cmdLedOn), (0x40020006, .cmdLedOff), (0x80010000, .evCountEdge),
          (0x80020000, .evCarryService), (0x80030000, .evWindowTick), (0x80040000, .evBtnDown), (0x80050000, .evBtnUp),
          (0x80070000, .evPor)]
        ∨ ∃ v : BitVec 16, i = .evAdcResult v ∧ w = (0x8006#16 ++ v : BitVec 32) ∧ v.toNat < 2 ^ n)

/-- R126, R59: every other word is refused, with the reason the first check reached names. -/
def Obligations.RefusedWordsReportTheFirstReason : Prop :=
  ∀ (n : Nat) (w : Word),
    let K : BitVec 2 := w.extractLsb' 30 2
    let Z : BitVec 6 := w.extractLsb' 24 6
    let X : BitVec 8 := w.extractLsb' 16 8
    let H : BitVec 8 := w.extractLsb' 8 8
    let D : BitVec 8 := w.extractLsb' 0 8
    let arg : BitVec 16 := w.extractLsb' 0 16
    let reservedAddress : Prop := X = 3 ∨ 10 ≤ X.toNat
    (K = 3 → decode n w = .error .reservedKind)
    ∧ (K ≠ 3 → Z ≠ 0 → decode n w = .error .reservedField)
    ∧ (K = 0 → Z = 0 → arg ≠ 0 → decode n w = .error .reservedField)
    ∧ (K = 0 → Z = 0 → arg = 0 → reservedAddress → decode n w = .error .reservedAddress)
    ∧ (K = 0 → Z = 0 → arg = 0 → X = 2 → decode n w = .error .wrongDirection)
    ∧ (K = 1 → Z = 0 → H ≠ 0 → decode n w = .error .reservedField)
    ∧ (K = 1 → Z = 0 → H = 0 → reservedAddress → decode n w = .error .reservedAddress)
    ∧ (K = 1 → Z = 0 → H = 0 → ¬ reservedAddress → X ≠ 2 → decode n w = .error .wrongDirection)
    ∧ (K = 1 → Z = 0 → H = 0 → X = 2 → D = 0 ∨ 7 ≤ D.toNat → decode n w = .error .reservedCommand)
    ∧ (K = 2 → Z = 0 → X = 0 ∨ 8 ≤ X.toNat → decode n w = .error .reservedEvent)
    ∧ (K = 2 → Z = 0 → X ≠ 0 → X.toNat < 8 → X ≠ 6 → arg ≠ 0 → decode n w = .error .reservedField)
    ∧ (K = 2 → Z = 0 → X = 6 → 2 ^ n ≤ arg.toNat → decode n w = .error .argRange)

/-! ## A step -/

/-- A step performs the operation the next scheduled word decodes to, at the state with that word taken and nothing answered
yet. The schedule is the model's own (notes/assumptions/3.md). -/
def Obligations.StepPerformsTheDecodedOperation : Prop :=
  ∀ (s : State) (w : Word) (rest : List Word) (i : Instr),
    s.schedule = w :: rest → decode s.cfg.adcBits w = .ok i →
      step s = exec i { s with schedule := rest, resp := .silent }

/-- R127: a refused word changes no block state and sets the sticky mark; the step reports the reason (R59). That the run
goes on is read from R127 (notes/assumptions/1.md). -/
def Obligations.StepOfARefusedWordOnlySetsTheMark : Prop :=
  ∀ (s : State) (w : Word) (rest : List Word) (r : RefusalReason),
    s.schedule = w :: rest → decode s.cfg.adcBits w = .error r →
      step s = .next { s with schedule := rest, refused := true, resp := .refusal r }

/-- R52, R53, R54, R55: a host read of any address is one step that answers the byte the register map gives and changes
nothing else. A read the map does not give is refused (R126): the mark is set and no block state changes (R127); that
this is one step to a next state is DEDUCED (notes/assumptions/1.md). -/
def Obligations.HostReadOfAnyAddressFollowsTheRegisterMap : Prop :=
  ∀ (s : State) (a : Byte) (rest : List Word),
    s.schedule = (0b00#2 ++ 0#6 ++ a ++ 0#16 : BitVec 32) :: rest →
      step s = match s.hostRead a with
        | .ok d => .next { s with schedule := rest, resp := .data d }
        | .error r => .next { s with schedule := rest, refused := true, resp := .refusal r }

/-- R56, R52: a host write of any byte to any address is one step that executes exactly the command the code selects at CMD.
Any other write is refused (R126): the mark is set and no block state changes (R127); that this is one step to a next
state is DEDUCED (notes/assumptions/1.md). -/
def Obligations.HostWriteOfAnyByteFollowsTheCommandTable : Prop :=
  ∀ (s : State) (a d : Byte) (rest : List Word),
    s.schedule = (0b01#2 ++ 0#6 ++ a ++ 0#8 ++ d : BitVec 32) :: rest →
      step s = match { s with schedule := rest, resp := .silent }.hostWrite a d with
        | .ok t => .next t
        | .error r => .next { s with schedule := rest, refused := true, resp := .refusal r }

/-- A run of well-formed operations is what the core does with their words scheduled: the statements about runs reach the
host's machine. The schedule is the model's own (notes/assumptions/3.md). -/
def Obligations.CoreRunsAScheduledRun : Prop :=
  ∀ (s t : State) (run : List Transition) (rest : List Word),
    Run s run t → (∀ tr ∈ run, tr.op.wellFormed s.cfg.adcBits = true) →
      Sys2Proof.core.run run.length { s with schedule := run.map (fun tr => encode tr.op) ++ rest }
        = .next { t with schedule := rest }

/-! ## The extended pulse counter -/

/-- R70: COUNT_EDGE, its word and all its cases, with everything else unchanged. -/
def Obligations.CountEdgeIncrementsAndLatchesTheCarry : Prop :=
  (∀ n : Nat, decode n 0x80010000 = .ok .evCountEdge)
  ∧ ∀ s : State,
    (s.extEn = false → exec .evCountEdge s = .next s)
    ∧ (s.extEn = true → s.hw ≠ 255 → exec .evCountEdge s = .next { s with hw := s.hw + 1 })
    ∧ (s.extEn = true → s.hw = 255 → s.pend = false →
        exec .evCountEdge s = .next { s with hw := 0, pend := true })
    ∧ (s.extEn = true → s.hw = 255 → s.pend = true → FaultCode.carryLost ∉ s.faults →
        exec .evCountEdge s = .next { s with hw := 0, faults := FaultCode.carryLost :: s.faults })
    ∧ (s.extEn = true → s.hw = 255 → s.pend = true → FaultCode.carryLost ∈ s.faults →
        exec .evCountEdge s = .next { s with hw := 0 })

/-- R71: a carry service adds one to the 24-bit value of the carry bytes, clears the request, and sets `ovf` when the value
wraps; it is enabled exactly when `pend = 1` and `ext_en = 1`. -/
def Obligations.CarryServiceIncrementsTheCarryBytes : Prop :=
  (∀ n : Nat, decode n 0x80020000 = .ok .evCarryService)
  ∧ ∀ s : State,
    let carries : BitVec 24 := s.c3 ++ s.c2 ++ s.c1
    (s.pend = true → s.extEn = true →
      exec .evCarryService s = .next { s with
        pend := false
        c1 := (carries + 1).extractLsb' 0 8
        c2 := (carries + 1).extractLsb' 8 8
        c3 := (carries + 1).extractLsb' 16 8
        ovf := s.ovf || decide (carries = 0xFFFFFF) })
    ∧ (s.pend = false ∨ s.extEn = false → exec .evCarryService s = .fault .noStep)

/-- R72: over a run with no window start, from carry bytes 0, `c2` changes once per 256 services, `c3` once per 65,536, and
`ovf` is set by every 16,777,216th service and by no other. -/
def Obligations.RippleCarryCountsServices : Prop :=
  ∀ (s t : State) (run : List Transition),
    Run s run t → s.c1 = 0 → s.c2 = 0 → s.c3 = 0 → (∀ tr ∈ run, tr.startsWindow = false) →
      (run.countP (fun tr => tr.pre.c2 != tr.post.c2) = timesOf .evCarryService run / 256
        ∧ run.countP (fun tr => tr.pre.c3 != tr.post.c3) = timesOf .evCarryService run / 65536)
      ∧ ∀ (before after : List Transition) (tr : Transition),
          run = before ++ tr :: after → tr.op = .evCarryService →
            tr.post.ovf = (tr.pre.ovf || decide ((timesOf .evCarryService before + 1) % 16777216 = 0))

/-- R73: the count invariant of a window. The window starts with the count 0 and `p0` pending; in every later state of it the
count, the pending carry and the carries lost to F1 add up to the edges counted. -/
def Obligations.WindowCountEqualsTheEdgesCounted : Prop :=
  ∀ (s0 s t : State) (i : Instr) (run : List Transition),
    perform i s0 = .next s → (Transition.mk s0 i s).startsWindow = true →
    Run s run t → (∀ tr ∈ run, tr.startsWindow = false) →
      s.pend = (decide (i = .evWindowTick) && !s0.cfg.sampleClearsPending && s0.pend)
      ∧ ((t.c3 ++ t.c2 ++ t.c1 ++ t.hw : BitVec 32).toNat + 256 * t.pend.toNat
            + 256 * run.countP (fun tr => tr.losesCarry)) % 2 ^ 32
          = (run.countP (fun tr => tr.countsEdge) + 256 * s.pend.toNat) % 2 ^ 32

/-- R74: the service that finds the carry bytes all 255 leaves them 0, and the flag it sets stays set over any run with no
OVF_CLR and no power-on reset (R140 clears it too). -/
def Obligations.CountWrapsAndTheFlagStays : Prop :=
  (∀ s : State, s.pend = true → s.extEn = true → s.c1 = 255 → s.c2 = 255 → s.c3 = 255 →
    exec .evCarryService s = .next { s with pend := false, c1 := 0, c2 := 0, c3 := 0, ovf := true })
  ∧ ∀ (s t : State) (run : List Transition),
      Run s run t → s.ovf = true → (∀ tr ∈ run, tr.op ≠ .cmdOvfClr ∧ tr.op ≠ .evPor) → t.ovf = true

/-- R149, as two bounds. While fewer edges are counted than bring `hw` from its value to a wrap, no carry is lost: 256 after
a wrap, which leaves `hw = 0`. In one window, with a carry pending and no carry service, the edges that wrap `hw` raise
F1. A run with a service before a later wrap is under neither bound; which edges raise F1 in it is what
`FaultRecordGrowsExactlyOnALostCarry` says. -/
def Obligations.CarryServiceMustRunBeforeTheNextWrap : Prop :=
  (∀ (s t : State) (run : List Transition),
    Run s run t → s.hw.toNat + run.countP (fun tr => tr.countsEdge) < 256 → ∀ tr ∈ run, tr.losesCarry = false)
  ∧ ∀ (s t : State) (run : List Transition),
      Run s run t → s.pend = true → 256 ≤ s.hw.toNat + run.countP (fun tr => tr.countsEdge) →
      (∀ tr ∈ run, tr.op ≠ .evCarryService ∧ tr.startsWindow = false) → FaultCode.carryLost ∈ t.faults

/-! ## The snapshot sampler and the reading guard -/

/-- R80, R87: WINDOW_TICK. With the guard clear it captures; with it set it keeps `lfc`, or under `P_GUARD_LAG` does either;
the count is zeroed whatever the guard. `draws` is the model's own (notes/assumptions/6.md). -/
def Obligations.WindowTickCapturesAndClears : Prop :=
  (∀ n : Nat, decode n 0x80030000 = .ok .evWindowTick)
  ∧ ∀ s : State,
    let count : BitVec 32 := s.c3 ++ s.c2 ++ s.c1 ++ s.hw
    let pendAfter : Bool := if s.cfg.sampleClearsPending then false else s.pend
    (s.smpEn = true → s.guard = false →
      exec .evWindowTick s = .next { s with lfc := count, hw := 0, c1 := 0, c2 := 0, c3 := 0, pend := pendAfter })
    ∧ (s.smpEn = true → s.guard = true → s.cfg.guardLag = false →
      exec .evWindowTick s = .next { s with hw := 0, c1 := 0, c2 := 0, c3 := 0, pend := pendAfter })
    ∧ (s.smpEn = true → s.guard = true → s.cfg.guardLag = true →
      ∃ capture : Bool, exec .evWindowTick s = .next { s with
        lfc := if capture then count else s.lfc
        hw := 0, c1 := 0, c2 := 0, c3 := 0, pend := pendAfter, draws := s.draws + 1 })
    ∧ (s.smpEn = false → exec .evWindowTick s = .fault .noStep)

/-- R81, R82: the guard commands set and clear the guard and change nothing else. -/
def Obligations.GuardCommandsWriteOnlyTheGuard : Prop :=
  (∀ n : Nat, decode n 0x40020001 = .ok .cmdGuardSet
      ∧ decode n 0x40020002 = .ok .cmdGuardClr)
  ∧ ∀ s : State,
    exec .cmdGuardSet s = .next { s with guard := true } ∧ exec .cmdGuardClr s = .next { s with guard := false }

/-- R83 to R86, R31: each read of Last Full Count answers its byte, the least significant at LFC0, and changes nothing; the
four bytes make up `lfc`. -/
def Obligations.LfcReadsReturnTheBytesLowToHigh : Prop :=
  (∀ n : Nat, decode n 0x00040000 = .ok .rdLfc0
      ∧ decode n 0x00050000 = .ok .rdLfc1
      ∧ decode n 0x00060000 = .ok .rdLfc2
      ∧ decode n 0x00070000 = .ok .rdLfc3)
  ∧ ∀ s : State, ∃ b0 b1 b2 b3 : Byte,
    (b3 ++ b2 ++ b1 ++ b0 : BitVec 32) = s.lfc
    ∧ exec .rdLfc0 s = .next { s with resp := .data b0 }
    ∧ exec .rdLfc1 s = .next { s with resp := .data b1 }
    ∧ exec .rdLfc2 s = .next { s with resp := .data b2 }
    ∧ exec .rdLfc3 s = .next { s with resp := .data b3 }

/-- R88, R40: with `P_GUARD_LAG = false`, from a GUARD_SET on, over any run with no GUARD_CLR and no power-on reset, `lfc`
keeps the value it had, every byte read is a byte of that value, and every tick zeroes the count it discards. -/
def Obligations.GuardedReadsSeeOneValue : Prop :=
  ∀ (s0 s t : State) (run : List Transition),
    s0.cfg.guardLag = false → perform .cmdGuardSet s0 = .next s → Run s run t →
    (∀ tr ∈ run, tr.op ≠ .cmdGuardClr ∧ tr.op ≠ .evPor) →
      ∀ tr ∈ run,
        tr.post.lfc = s0.lfc
        ∧ (tr.op = .rdLfc0 → tr.post.resp = .data (s0.lfc.extractLsb' 0 8))
        ∧ (tr.op = .rdLfc1 → tr.post.resp = .data (s0.lfc.extractLsb' 8 8))
        ∧ (tr.op = .rdLfc2 → tr.post.resp = .data (s0.lfc.extractLsb' 16 8))
        ∧ (tr.op = .rdLfc3 → tr.post.resp = .data (s0.lfc.extractLsb' 24 8))
        ∧ (tr.op = .evWindowTick → tr.post.hw = 0 ∧ tr.post.c1 = 0 ∧ tr.post.c2 = 0 ∧ tr.post.c3 = 0)

/-- R144: a window tick between two unguarded byte reads of `lfc` makes the second a byte of the new capture. -/
def Obligations.UnguardedReadAcrossATickIsTorn : Prop :=
  ∀ s : State, s.smpEn = true → s.guard = false →
    ∃ a b c : State,
      perform .rdLfc0 s = .next a ∧ a.resp = .data (s.lfc.extractLsb' 0 8)
      ∧ perform .evWindowTick a = .next b
      ∧ perform .rdLfc1 b = .next c
      ∧ c.resp = .data ((s.c3 ++ s.c2 ++ s.c1 ++ s.hw : BitVec 32).extractLsb' 8 8)

/-- R147, R142: over a run with no window tick and no power-on reset, whatever mode changes it holds, `lfc` keeps its value. -/
def Obligations.LastFullCountIsStaleUntilATick : Prop :=
  ∀ (s t : State) (run : List Transition),
    Run s run t → (∀ tr ∈ run, tr.op ≠ .evWindowTick ∧ tr.op ≠ .evPor) → t.lfc = s.lfc

/-- R124: with a carry service and a tick both enabled, either may come first. A tick first captures 256 less than a service
first, and the service after it is still enabled unless the tick cleared the request. -/
def Obligations.ServicesRunInEitherOrder : Prop :=
  ∀ s : State, s.pend = true → s.extEn = true → s.smpEn = true → s.guard = false →
    let count : BitVec 32 := s.c3 ++ s.c2 ++ s.c1 ++ s.hw
    (∃ a b : State, exec .evCarryService s = .next a ∧ exec .evWindowTick a = .next b
      ∧ b.lfc = count + 256 ∧ b.pend = false ∧ b.c1 = 0)
    ∧ (∃ a : State, exec .evWindowTick s = .next a ∧ a.lfc = count
      ∧ (s.cfg.sampleClearsPending = false → ∃ b : State, exec .evCarryService a = .next b
          ∧ b.lfc = count ∧ b.pend = false ∧ b.c1 = 1)
      ∧ (s.cfg.sampleClearsPending = true → exec .evCarryService a = .fault .noStep))

/-- R143: an edge that wraps `hw`, then a tick, then the carry service. The capture is 256 low; the next window starts 256
high, or, under `P_SAMPLE_CLEARS_PENDING`, the 256 edges are lost. -/
def Obligations.CarryStraddlingAWindowMovesOrLoses256 : Prop :=
  ∀ s : State, s.hw = 255 → s.pend = false → s.extEn = true → s.smpEn = true → s.guard = false →
    let count : BitVec 32 := s.c3 ++ s.c2 ++ s.c1 ++ s.hw
    ∃ a b : State, exec .evCountEdge s = .next a ∧ exec .evWindowTick a = .next b
      ∧ b.lfc = count + 1 - 256
      ∧ (s.cfg.sampleClearsPending = false → ∃ c : State, exec .evCarryService b = .next c
          ∧ (c.c3 ++ c.c2 ++ c.c1 ++ c.hw : BitVec 32) = 256 ∧ c.pend = false)
      ∧ (s.cfg.sampleClearsPending = true → (b.c3 ++ b.c2 ++ b.c1 ++ b.hw : BitVec 32) = 0
          ∧ exec .evCarryService b = .fault .noStep)

/-! ## The mode FSM and the battery sample -/

/-- R90 to R95: MODE_ADV from each mode, with its entry action, everything else unchanged. -/
def Obligations.ModeAdvanceRunsTheEntryAction : Prop :=
  (∀ n : Nat, decode n 0x40020004 = .ok .cmdModeAdv)
  ∧ ∀ s : State,
    (s.mode = 0 → exec .cmdModeAdv s = .next { s with
      mode := 1, pscEn := true, hw := 0, c1 := 0, c2 := 0, c3 := 0, pend := false
      extEn := true, smpEn := true, adcEn := false })
    ∧ (s.mode = 1 → exec .cmdModeAdv s = .next { s with mode := 2, extEn := false, smpEn := false, adcEn := true })
    ∧ (s.mode = 2 → exec .cmdModeAdv s = .next { s with
      mode := 0, pscEn := false, hw := 0, c1 := 0, c2 := 0, c3 := 0, pend := false
      extEn := true, smpEn := true, adcEn := false })

/-- The model's choice for the unreachable mode number 3 (notes/assumptions/9.md): R90's formula gives mode 1. -/
def Obligations.ModeAdvanceFromTheUnreachableMode : Prop :=
  ∀ s : State, s.mode = 3 → exec .cmdModeAdv s = .next { s with
    mode := 1, pscEn := true, hw := 0, c1 := 0, c2 := 0, c3 := 0, pend := false
    extEn := true, smpEn := true, adcEn := false }

/-- R99: from a state that meets the invariant, a run with exactly three MODE_ADV and no power-on reset returns the mode to its
start, and from a frequency mode the third MODE_ADV runs setup. -/
def Obligations.ThreeModeAdvancesReturnToTheMode : Prop :=
  ∀ (s t : State) (run : List Transition),
    Inv s → Run s run t → timesOf .cmdModeAdv run = 3 → (∀ tr ∈ run, tr.op ≠ .evPor) →
      t.mode = s.mode
      ∧ (s.mode ≠ 2 → ∀ (before after : List Transition) (tr : Transition),
          run = before ++ tr :: after → tr.op = .cmdModeAdv → timesOf .cmdModeAdv before = 2 →
            tr.post.hw = 0 ∧ tr.post.c1 = 0 ∧ tr.post.c2 = 0 ∧ tr.post.c3 = 0 ∧ tr.post.pend = false)

/-- R96, R61: ADC_RESULT stores the low `P_ADC_BITS` bits of its argument, all of it where the argument is in range, and
changes nothing else; it is enabled exactly while `adc_en = 1`, whatever the guard. -/
def Obligations.AdcResultStoresTheSample : Prop :=
  (∀ (n : Nat) (v : BitVec 16),
    decode n (0x8006#16 ++ v : BitVec 32) = if v.toNat < 2 ^ n then .ok (.evAdcResult v) else .error .argRange)
  ∧ ∀ (s : State) (v : BitVec 16),
    (s.adcEn = true → ∃ sample : BitVec 16,
      exec (.evAdcResult v) s = .next { s with bat := sample }
      ∧ sample.toNat = v.toNat % 2 ^ s.cfg.adcBits
      ∧ (v.toNat < 2 ^ s.cfg.adcBits → sample = v))
    ∧ (s.adcEn = false → exec (.evAdcResult v) s = .fault .noStep)

/-- R97, R98: the battery reads answer the low byte and the bits above it, and change nothing; in a state that meets the
invariant BATHI holds `P_ADC_BITS - 8` bits, none where the sample has 8 or fewer. -/
def Obligations.BatteryReadsReturnTheSample : Prop :=
  (∀ n : Nat, decode n 0x00080000 = .ok .rdBatlo
      ∧ decode n 0x00090000 = .ok .rdBathi)
  ∧ ∀ s : State, ∃ lo hi : Byte,
    (hi ++ lo : BitVec 16) = s.bat ∧ (Inv s → hi.toNat < 2 ^ (s.cfg.adcBits - 8))
    ∧ exec .rdBatlo s = .next { s with resp := .data lo }
    ∧ exec .rdBathi s = .next { s with resp := .data hi }

/-- R148: an ADC_RESULT between the two byte reads gives a byte of each sample, even with the guard set. -/
def Obligations.GuardedBatteryReadCanBeTorn : Prop :=
  ∀ (s : State) (v : BitVec 16), s.guard = true → s.adcEn = true → v.toNat < 2 ^ s.cfg.adcBits →
    ∃ a b c : State,
      perform .rdBatlo s = .next a ∧ a.resp = .data (s.bat.extractLsb' 0 8)
      ∧ perform (.evAdcResult v) a = .next b
      ∧ perform .rdBathi b = .next c ∧ c.resp = .data (v.extractLsb' 8 8)

/-! ## Status, overflow clear, indicator, button -/

/-- R100, R53: rd STATUS answers the eight bits in their places and changes nothing, `ovf` included. -/
def Obligations.StatusReadReturnsTheEightBits : Prop :=
  (∀ n : Nat, decode n 0x00000000 = .ok .rdStatus)
  ∧ ∀ s : State, ∃ d : Byte,
    exec .rdStatus s = .next { s with resp := .data d }
    ∧ d.getLsbD 0 = s.ovf ∧ d.getLsbD 1 = s.guard ∧ d.getLsbD 2 = s.btnN ∧ d.getLsbD 3 = s.pscEn
    ∧ d.getLsbD 4 = s.extEn ∧ d.getLsbD 5 = s.smpEn ∧ d.getLsbD 6 = s.adcEn ∧ d.getLsbD 7 = s.led

/-- R101, R54: rd MODE answers the mode number, zero-extended, and changes nothing; the answer is never 3 in a state that meets
the invariant. -/
def Obligations.ModeReadReturnsTheModeNumber : Prop :=
  (∀ n : Nat, decode n 0x00010000 = .ok .rdMode)
  ∧ ∀ s : State, ∃ d : Byte,
    exec .rdMode s = .next { s with resp := .data d } ∧ d.toNat = s.mode.toNat ∧ (Inv s → d ≠ 3)

/-- R102: OVF_CLR clears the Overflow Flag and changes nothing else. -/
def Obligations.OverflowClearWritesOnlyTheFlag : Prop :=
  (∀ n : Nat, decode n 0x40020003 = .ok .cmdOvfClr)
  ∧ ∀ s : State, exec .cmdOvfClr s = .next { s with ovf := false }

/-- R103, R104: the indicator commands write the indicator and nothing else. -/
def Obligations.IndicatorCommandsWriteOnlyTheIndicator : Prop :=
  (∀ n : Nat, decode n 0x40020005 = .ok .cmdLedOn
      ∧ decode n 0x40020006 = .ok .cmdLedOff)
  ∧ ∀ s : State,
    exec .cmdLedOn s = .next { s with led := true } ∧ exec .cmdLedOff s = .next { s with led := false }

/-- R105, R106: the button events change the level and nothing else, and each is enabled only from the other level. -/
def Obligations.ButtonEventsAlternateTheLevel : Prop :=
  (∀ n : Nat, decode n 0x80040000 = .ok .evBtnDown
      ∧ decode n 0x80050000 = .ok .evBtnUp)
  ∧ ∀ s : State,
    (s.btnN = true → exec .evBtnDown s = .next { s with btnN := false } ∧ exec .evBtnUp s = .fault .noStep)
    ∧ (s.btnN = false → exec .evBtnUp s = .next { s with btnN := true } ∧ exec .evBtnDown s = .fault .noStep)

/-- R107: after OVF_CLR, over any run with no carry service that wraps `c3`, every STATUS read answers bit 0 clear. -/
def Obligations.ClearedOverflowReadsZeroUntilTheNextWrap : Prop :=
  ∀ (s0 s t : State) (run : List Transition),
    perform .cmdOvfClr s0 = .next s → Run s run t → (∀ tr ∈ run, tr.wrapsCount = false) →
      ∀ tr ∈ run, tr.op = .rdStatus → ∃ d : Byte, tr.post.resp = .data d ∧ d.getLsbD 0 = false

/-- R146: an overflow set between the host's STATUS read and its OVF_CLR is cleared unseen. -/
def Obligations.OverflowBetweenReadAndClearIsLost : Prop :=
  ∀ s : State, s.ovf = false → s.pend = true → s.extEn = true → s.c1 = 255 → s.c2 = 255 → s.c3 = 255 →
    ∃ (a b c d : State) (x y : Byte),
      perform .rdStatus s = .next a ∧ a.resp = .data x ∧ x.getLsbD 0 = false
      ∧ perform .evCarryService a = .next b ∧ b.ovf = true
      ∧ perform .cmdOvfClr b = .next c
      ∧ perform .rdStatus c = .next d ∧ d.resp = .data y ∧ y.getLsbD 0 = false

/-! ## Reset -/

/-- R140: POR from any state and for either initial mode. `btn_n`, `faults` and `refused` are not changed, nor are the model's
own fields. -/
def Obligations.PowerOnResetGivesTheInitialMode : Prop :=
  (∀ n : Nat, decode n 0x80070000 = .ok .evPor)
  ∧ ∀ s : State,
    (s.cfg.initialMode = .baseFrequency → exec .evPor s = .next { s with
      hw := 0, c1 := 0, c2 := 0, c3 := 0, pend := false, ovf := false, guard := false, lfc := 0, led := false, bat := 0
      mode := 0, pscEn := false, extEn := true, smpEn := true, adcEn := false })
    ∧ (s.cfg.initialMode = .extraFrequency → exec .evPor s = .next { s with
      hw := 0, c1 := 0, c2 := 0, c3 := 0, pend := false, ovf := false, guard := false, lfc := 0, led := false, bat := 0
      mode := 1, pscEn := true, extEn := true, smpEn := true, adcEn := false })

/-- R141: a run starts in the state POR produces, for either button level, with no fault and no refusal. The button level of
`State.reset` is the model's choice (notes/assumptions/7.md); this holds for both. -/
def Obligations.RunsStartInThePowerOnState : Prop :=
  (∀ s : State, exec .evPor s = .next { State.start s.cfg s.btnN with
      faults := s.faults, refused := s.refused, schedule := s.schedule, resp := s.resp, draws := s.draws })
  ∧ ∀ (c : Config) (button : Bool),
      (State.start c button).faults = [] ∧ (State.start c button).refused = false
      ∧ (State.start c button).btnN = button ∧ (State.start c button).cfg = c

/-! ## The whole machine -/

/-- R129: an operation takes a step exactly when it is enabled; otherwise it is no step, which the model writes as the stuck
state `noStep` (notes/assumptions/2.md). -/
def Obligations.OperationsStepExactlyWhenEnabled : Prop :=
  ∀ (i : Instr) (s : State),
    (enabled i s = true → ∃ t : State, exec i s = .next t) ∧ (enabled i s = false → exec i s = .fault .noStep)

/-- R39: every host operation completes in any state; none writes `lfc` or `bat`; only MODE_ADV reaches the count, the pending
carry or the service enables. -/
def Obligations.HostAccessesCompleteAndAreConfined : Prop :=
  ∀ (i : Instr) (s : State), i.agent = .host →
    ∃ t : State, exec i s = .next t ∧ t.lfc = s.lfc ∧ t.bat = s.bat
      ∧ (i ≠ .cmdModeAdv → t.hw = s.hw ∧ t.c1 = s.c1 ∧ t.c2 = s.c2 ∧ t.c3 = s.c3 ∧ t.pend = s.pend
          ∧ t.extEn = s.extEn ∧ t.smpEn = s.smpEn)

/-- R34: a host read changes nothing but the answer, and reading again answers the same. -/
def Obligations.HostReadsHaveNoSideEffect : Prop :=
  ∀ (i : Instr) (s : State), i.kind = .hostRead →
    ∃ d : Byte, exec i s = .next { s with resp := .data d }
      ∧ exec i { s with resp := .data d } = .next { s with resp := .data d }

/-- R34: every command but MODE_ADV is idempotent, and MODE_ADV is not in any legal mode. -/
def Obligations.CommandsButModeAdvAreIdempotent : Prop :=
  (∀ (i : Instr) (s t : State), i.kind = .hostWrite → i ≠ .cmdModeAdv → exec i s = .next t → exec i t = .next t)
  ∧ ∀ s t u : State, s.mode ≠ 3 → exec .cmdModeAdv s = .next t → exec .cmdModeAdv t = .next u →
      t.mode ≠ s.mode ∧ u.mode ≠ t.mode ∧ u.mode ≠ s.mode

/-- R10, R11, R13, with R140: which operations write the count bytes and the pending carry. -/
def Obligations.CountIsWrittenOnlyByItsWriters : Prop :=
  ∀ (i : Instr) (s t : State), exec i s = .next t →
    (t.hw ≠ s.hw → i = .evCountEdge ∧ s.extEn = true ∨ i = .evWindowTick ∨ i = .cmdModeAdv ∨ i = .evPor)
    ∧ (t.c1 ≠ s.c1 ∨ t.c2 ≠ s.c2 ∨ t.c3 ≠ s.c3 →
        i = .evCarryService ∨ i = .evWindowTick ∨ i = .cmdModeAdv ∨ i = .evPor)
    ∧ (t.pend = true → s.pend = false → i = .evCountEdge ∧ s.hw = 255 ∧ s.extEn = true)
    ∧ (t.pend = false → s.pend = true →
        i = .evCarryService ∨ i = .evWindowTick ∧ s.cfg.sampleClearsPending = true ∨ i = .cmdModeAdv ∨ i = .evPor)

/-- R14, R15, R16, R150, with R140: which operations write the Overflow Flag, the Reading Guard and Last Full Count. -/
def Obligations.FlagsAndLfcAreWrittenOnlyByTheirWriters : Prop :=
  ∀ (i : Instr) (s t : State), exec i s = .next t →
    (t.ovf = true → s.ovf = false → i = .evCarryService ∧ s.c1 = 255 ∧ s.c2 = 255 ∧ s.c3 = 255)
    ∧ (t.ovf = false → s.ovf = true → i = .cmdOvfClr ∨ i = .evPor)
    ∧ (t.guard = true → s.guard = false → i = .cmdGuardSet)
    ∧ (t.guard = false → s.guard = true → i = .cmdGuardClr ∨ i = .evPor)
    ∧ (t.lfc ≠ s.lfc → i = .evWindowTick ∨ i = .evPor)

/-- R17 to R23, with R140: which operations write the mode, the outputs, the button level and the battery sample; nothing
writes the parameters or the schedule. -/
def Obligations.ModeOutputsAndInputsAreWrittenOnlyByTheirWriters : Prop :=
  ∀ (i : Instr) (s t : State), exec i s = .next t →
    (t.mode ≠ s.mode ∨ t.pscEn ≠ s.pscEn ∨ t.extEn ≠ s.extEn ∨ t.smpEn ≠ s.smpEn ∨ t.adcEn ≠ s.adcEn →
        i = .cmdModeAdv ∨ i = .evPor)
    ∧ (t.led ≠ s.led → i = .cmdLedOn ∨ i = .cmdLedOff ∨ i = .evPor)
    ∧ (t.btnN ≠ s.btnN → i = .evBtnDown ∨ i = .evBtnUp)
    ∧ (t.bat ≠ s.bat → (∃ v, i = .evAdcResult v) ∨ i = .evPor)
    ∧ t.cfg = s.cfg ∧ t.schedule = s.schedule

/-- R125, R128: F1 is recorded by exactly the edge that wraps `hw` while a carry is pending, which completes with `hw = 0` and
`pend` still set; no transition removes a code, and none but a refusal touches the refusal mark. -/
def Obligations.FaultRecordGrowsExactlyOnALostCarry : Prop :=
  ∀ (i : Instr) (s t : State), exec i s = .next t →
    (FaultCode.carryLost ∈ t.faults ↔
      FaultCode.carryLost ∈ s.faults ∨ (i = .evCountEdge ∧ s.extEn = true ∧ s.hw = 255 ∧ s.pend = true))
    ∧ (i = .evCountEdge → s.extEn = true → s.hw = 255 → s.pend = true → t.hw = 0 ∧ t.pend = true)
    ∧ t.refused = s.refused

/-- R24, R25: over a step nothing is removed from the fault record and a set refusal mark stays set. -/
def Obligations.BookkeepingIsSticky : Prop :=
  ∀ s t : State, step s = .next t →
    (∀ f ∈ s.faults, f ∈ t.faults) ∧ (s.refused = true → t.refused = true)

/-- R10, R11, R13: the host cannot see the count bytes or the pending carry: states that differ only in them answer every host
read alike. -/
def Obligations.HostReadsDoNotShowTheRunningCount : Prop :=
  ∀ (i : Instr) (s t u : State) (hw c1 c2 c3 : Byte) (pend : Bool), i.kind = .hostRead →
    exec i s = .next t → exec i { s with hw := hw, c1 := c1, c2 := c2, c3 := c3, pend := pend } = .next u →
      u.resp = t.resp ∧ u = { t with hw := hw, c1 := c1, c2 := c2, c3 := c3, pend := pend }

/-- R27, at the start of a run: the invariants hold in every start state with parameters in their range, and after reset. -/
def Obligations.StartStatesMeetTheInvariants : Prop :=
  (∀ (c : Config) (button : Bool), c.valid = true → Inv (State.start c button)) ∧ Inv State.reset

/-- R27: every step keeps the invariants, whatever word is scheduled. -/
def Obligations.EveryStepKeepsTheInvariants : Prop :=
  ∀ s t : State, Inv s → step s = .next t → Inv t

/-- R133, R121, R122: in a fair run with no mode change and no reset from some point on, a pending carry that is enabled is
serviced and an enabled window timer ticks again and again. -/
def Obligations.FairRunsServiceCarriesAndTick : Prop :=
  ∀ (st : Nat → State) (op : Nat → Instr) (n : Nat),
    InfiniteRun st op → FairRun st op → (∀ m, n ≤ m → op m ≠ .cmdModeAdv ∧ op m ≠ .evPor) →
      ((st n).pend = true → (st n).extEn = true → (st n).cfg.sampleClearsPending = false →
        ∃ m, n ≤ m ∧ op m = .evCarryService)
      ∧ ((st n).smpEn = true → ∀ k, ∃ m, k ≤ m ∧ op m = .evWindowTick)

/-! ## The pseudo-instructions -/

/-- R63: `edges n` adds `n` to `hw` while the counter runs and does not wrap. -/
def Obligations.EdgesPseudoCountsItsEdges : Prop :=
  ∀ (s : State) (n : Nat), s.extEn = true → s.hw.toNat + n ≤ 255 →
    ∃ (run : List Transition) (t : State), Run s run t
      ∧ run.map (fun tr => tr.op) = (Pseudo.edges n).operations
      ∧ t = { s with hw := s.hw + BitVec.ofNat 8 n, resp := t.resp }

/-- R63: `read_lfc` answers the four bytes of `lfc` in order, runs in any state, and leaves the guard clear. -/
def Obligations.ReadLfcPseudoReadsTheFourBytes : Prop :=
  ∀ s : State, ∃ (run : List Transition) (t : State), Run s run t
    ∧ run.map (fun tr => tr.op) = Pseudo.readLfc.operations
    ∧ run.map (fun tr => tr.post.resp) =
        [.silent, .data (s.lfc.extractLsb' 0 8), .data (s.lfc.extractLsb' 8 8), .data (s.lfc.extractLsb' 16 8),
          .data (s.lfc.extractLsb' 24 8), .silent]
    ∧ t = { s with guard := false, resp := .silent }

/-- R63: `press`, from a released button, leaves it released and advances the mode by one (R90). In the mode number 3, which no
reachable state has, the mode it advances to is the model's choice (notes/assumptions/9.md). -/
def Obligations.PressPseudoAdvancesTheMode : Prop :=
  ∀ s : State, s.btnN = true → ∃ (run : List Transition) (t : State), Run s run t
    ∧ run.map (fun tr => tr.op) = Pseudo.press.operations
    ∧ t.btnN = true ∧ t.mode.toNat = (s.mode.toNat + 1) % 3
end

