-- ==== Sys2Proof/Laws/Encoding.lean ====
section
/-! SUPPORT. The fields of an operation word (30_encoding.md R50), put in and taken out again. -/

namespace Sys2Proof

theorem operationWord_getLsbD (k : BitVec 2) (a : Byte) (arg : BitVec 16) (i : Nat) :
    (operationWord k a arg).getLsbD i =
      if i < 16 then arg.getLsbD i
      else if i - 16 < 8 then a.getLsbD (i - 16)
      else if i - 16 - 8 < 6 then (0#6).getLsbD (i - 16 - 8)
      else k.getLsbD (i - 16 - 8 - 6) := by
  simp only [operationWord]
  rw [BitVec.getLsbD_append]
  split
  · rfl
  rw [BitVec.getLsbD_append]
  split
  · rfl
  rw [BitVec.getLsbD_append]

@[simp] theorem fieldK_operationWord (k : BitVec 2) (a : Byte) (arg : BitVec 16) :
    fieldK (operationWord k a arg) = k := by
  apply BitVec.eq_of_getLsbD_eq; intro i hi
  rw [fieldK, BitVec.getLsbD_extractLsb', operationWord_getLsbD, if_neg (by omega), if_neg (by omega),
    if_neg (by omega), show 30 + i - 16 - 8 - 6 = i by omega]
  simp [hi]

@[simp] theorem fieldZ_operationWord (k : BitVec 2) (a : Byte) (arg : BitVec 16) :
    fieldZ (operationWord k a arg) = 0 := by
  apply BitVec.eq_of_getLsbD_eq; intro i hi
  rw [fieldZ, BitVec.getLsbD_extractLsb', operationWord_getLsbD, if_neg (by omega), if_neg (by omega),
    if_pos (by omega)]
  simp

@[simp] theorem fieldA_operationWord (k : BitVec 2) (a : Byte) (arg : BitVec 16) :
    fieldA (operationWord k a arg) = a := by
  apply BitVec.eq_of_getLsbD_eq; intro i hi
  rw [fieldA, BitVec.getLsbD_extractLsb', operationWord_getLsbD, if_neg (by omega), if_pos (by omega),
    show 16 + i - 16 = i by omega]
  simp [hi]

@[simp] theorem fieldArg_operationWord (k : BitVec 2) (a : Byte) (arg : BitVec 16) :
    fieldArg (operationWord k a arg) = arg := by
  apply BitVec.eq_of_getLsbD_eq; intro i hi
  rw [fieldArg, BitVec.getLsbD_extractLsb', operationWord_getLsbD, if_pos (by omega), show 0 + i = i by omega]
  simp [hi]

/-- A word whose reserved field is 0 is put together again from its fields. -/
theorem operationWord_fields {w : Word} (h : fieldZ w = 0) :
    operationWord (fieldK w) (fieldA w) (fieldArg w) = w := by
  apply BitVec.eq_of_getLsbD_eq; intro i hi
  rw [operationWord_getLsbD]
  split
  · rename_i h1; simp [fieldArg, h1]
  split
  · rename_i h1 h2; simp [fieldA, h2, show 16 + (i - 16) = i by omega]
  split
  · rename_i h1 h2 h3
    have := congrArg (fun z => z.getLsbD (i - 16 - 8)) h
    simp only [fieldZ, BitVec.getLsbD_extractLsb', h3, decide_true, Bool.true_and,
      show 24 + (i - 16 - 8) = i by omega] at this
    rw [this]; rfl
  · rename_i h1 h2 h3; simp [fieldK, show i - 16 - 8 - 6 < 2 by omega, show 30 + (i - 16 - 8 - 6) = i by omega]

/-- The low half of a word is its `H` and `D` fields. -/
theorem fieldArg_eq_append (w : Word) : fieldArg w = (fieldH w ++ fieldD w : BitVec 16) := by
  apply BitVec.eq_of_getLsbD_eq; intro i hi
  rw [BitVec.getLsbD_append]
  split
  · rename_i h; simp [fieldArg, fieldD, hi, h]
  · rename_i h; simp [fieldArg, fieldH, hi, show i - 8 < 8 by omega, show 8 + (i - 8) = i by omega]

end Sys2Proof
end

