-- ==== Sys2Proof/Laws/State.lean ====
section
/-! SUPPORT. One lemma per field per update of the state, so that no later proof unfolds a record update. -/

namespace Sys2Proof.Machine

/-! ### begin -/

@[simp] theorem State.begin_hw (s : State) (rest : List Word) : (s.begin rest).hw = s.hw := rfl
@[simp] theorem State.begin_c1 (s : State) (rest : List Word) : (s.begin rest).c1 = s.c1 := rfl
@[simp] theorem State.begin_c2 (s : State) (rest : List Word) : (s.begin rest).c2 = s.c2 := rfl
@[simp] theorem State.begin_c3 (s : State) (rest : List Word) : (s.begin rest).c3 = s.c3 := rfl
@[simp] theorem State.begin_pend (s : State) (rest : List Word) : (s.begin rest).pend = s.pend := rfl
@[simp] theorem State.begin_ovf (s : State) (rest : List Word) : (s.begin rest).ovf = s.ovf := rfl
@[simp] theorem State.begin_guard (s : State) (rest : List Word) : (s.begin rest).guard = s.guard := rfl
@[simp] theorem State.begin_lfc (s : State) (rest : List Word) : (s.begin rest).lfc = s.lfc := rfl
@[simp] theorem State.begin_mode (s : State) (rest : List Word) : (s.begin rest).mode = s.mode := rfl
@[simp] theorem State.begin_pscEn (s : State) (rest : List Word) : (s.begin rest).pscEn = s.pscEn := rfl
@[simp] theorem State.begin_extEn (s : State) (rest : List Word) : (s.begin rest).extEn = s.extEn := rfl
@[simp] theorem State.begin_smpEn (s : State) (rest : List Word) : (s.begin rest).smpEn = s.smpEn := rfl
@[simp] theorem State.begin_adcEn (s : State) (rest : List Word) : (s.begin rest).adcEn = s.adcEn := rfl
@[simp] theorem State.begin_led (s : State) (rest : List Word) : (s.begin rest).led = s.led := rfl
@[simp] theorem State.begin_btnN (s : State) (rest : List Word) : (s.begin rest).btnN = s.btnN := rfl
@[simp] theorem State.begin_bat (s : State) (rest : List Word) : (s.begin rest).bat = s.bat := rfl
@[simp] theorem State.begin_faults (s : State) (rest : List Word) : (s.begin rest).faults = s.faults := rfl
@[simp] theorem State.begin_refused (s : State) (rest : List Word) : (s.begin rest).refused = s.refused := rfl
@[simp] theorem State.begin_cfg (s : State) (rest : List Word) : (s.begin rest).cfg = s.cfg := rfl
@[simp] theorem State.begin_schedule (s : State) (rest : List Word) : (s.begin rest).schedule = rest := rfl
@[simp] theorem State.begin_resp (s : State) (rest : List Word) : (s.begin rest).resp = .silent := rfl
@[simp] theorem State.begin_draws (s : State) (rest : List Word) : (s.begin rest).draws = s.draws := rfl

/-! ### answer -/

@[simp] theorem State.answer_hw (s : State) (d : Byte) : (s.answer d).hw = s.hw := rfl
@[simp] theorem State.answer_c1 (s : State) (d : Byte) : (s.answer d).c1 = s.c1 := rfl
@[simp] theorem State.answer_c2 (s : State) (d : Byte) : (s.answer d).c2 = s.c2 := rfl
@[simp] theorem State.answer_c3 (s : State) (d : Byte) : (s.answer d).c3 = s.c3 := rfl
@[simp] theorem State.answer_pend (s : State) (d : Byte) : (s.answer d).pend = s.pend := rfl
@[simp] theorem State.answer_ovf (s : State) (d : Byte) : (s.answer d).ovf = s.ovf := rfl
@[simp] theorem State.answer_guard (s : State) (d : Byte) : (s.answer d).guard = s.guard := rfl
@[simp] theorem State.answer_lfc (s : State) (d : Byte) : (s.answer d).lfc = s.lfc := rfl
@[simp] theorem State.answer_mode (s : State) (d : Byte) : (s.answer d).mode = s.mode := rfl
@[simp] theorem State.answer_pscEn (s : State) (d : Byte) : (s.answer d).pscEn = s.pscEn := rfl
@[simp] theorem State.answer_extEn (s : State) (d : Byte) : (s.answer d).extEn = s.extEn := rfl
@[simp] theorem State.answer_smpEn (s : State) (d : Byte) : (s.answer d).smpEn = s.smpEn := rfl
@[simp] theorem State.answer_adcEn (s : State) (d : Byte) : (s.answer d).adcEn = s.adcEn := rfl
@[simp] theorem State.answer_led (s : State) (d : Byte) : (s.answer d).led = s.led := rfl
@[simp] theorem State.answer_btnN (s : State) (d : Byte) : (s.answer d).btnN = s.btnN := rfl
@[simp] theorem State.answer_bat (s : State) (d : Byte) : (s.answer d).bat = s.bat := rfl
@[simp] theorem State.answer_faults (s : State) (d : Byte) : (s.answer d).faults = s.faults := rfl
@[simp] theorem State.answer_refused (s : State) (d : Byte) : (s.answer d).refused = s.refused := rfl
@[simp] theorem State.answer_cfg (s : State) (d : Byte) : (s.answer d).cfg = s.cfg := rfl
@[simp] theorem State.answer_schedule (s : State) (d : Byte) : (s.answer d).schedule = s.schedule := rfl
@[simp] theorem State.answer_resp (s : State) (d : Byte) : (s.answer d).resp = .data d := rfl
@[simp] theorem State.answer_draws (s : State) (d : Byte) : (s.answer d).draws = s.draws := rfl

/-! ### refuse -/

@[simp] theorem State.refuse_hw (s : State) (r : RefusalReason) : (s.refuse r).hw = s.hw := rfl
@[simp] theorem State.refuse_c1 (s : State) (r : RefusalReason) : (s.refuse r).c1 = s.c1 := rfl
@[simp] theorem State.refuse_c2 (s : State) (r : RefusalReason) : (s.refuse r).c2 = s.c2 := rfl
@[simp] theorem State.refuse_c3 (s : State) (r : RefusalReason) : (s.refuse r).c3 = s.c3 := rfl
@[simp] theorem State.refuse_pend (s : State) (r : RefusalReason) : (s.refuse r).pend = s.pend := rfl
@[simp] theorem State.refuse_ovf (s : State) (r : RefusalReason) : (s.refuse r).ovf = s.ovf := rfl
@[simp] theorem State.refuse_guard (s : State) (r : RefusalReason) : (s.refuse r).guard = s.guard := rfl
@[simp] theorem State.refuse_lfc (s : State) (r : RefusalReason) : (s.refuse r).lfc = s.lfc := rfl
@[simp] theorem State.refuse_mode (s : State) (r : RefusalReason) : (s.refuse r).mode = s.mode := rfl
@[simp] theorem State.refuse_pscEn (s : State) (r : RefusalReason) : (s.refuse r).pscEn = s.pscEn := rfl
@[simp] theorem State.refuse_extEn (s : State) (r : RefusalReason) : (s.refuse r).extEn = s.extEn := rfl
@[simp] theorem State.refuse_smpEn (s : State) (r : RefusalReason) : (s.refuse r).smpEn = s.smpEn := rfl
@[simp] theorem State.refuse_adcEn (s : State) (r : RefusalReason) : (s.refuse r).adcEn = s.adcEn := rfl
@[simp] theorem State.refuse_led (s : State) (r : RefusalReason) : (s.refuse r).led = s.led := rfl
@[simp] theorem State.refuse_btnN (s : State) (r : RefusalReason) : (s.refuse r).btnN = s.btnN := rfl
@[simp] theorem State.refuse_bat (s : State) (r : RefusalReason) : (s.refuse r).bat = s.bat := rfl
@[simp] theorem State.refuse_faults (s : State) (r : RefusalReason) : (s.refuse r).faults = s.faults := rfl
@[simp] theorem State.refuse_refused (s : State) (r : RefusalReason) : (s.refuse r).refused = true := rfl
@[simp] theorem State.refuse_cfg (s : State) (r : RefusalReason) : (s.refuse r).cfg = s.cfg := rfl
@[simp] theorem State.refuse_schedule (s : State) (r : RefusalReason) : (s.refuse r).schedule = s.schedule := rfl
@[simp] theorem State.refuse_resp (s : State) (r : RefusalReason) : (s.refuse r).resp = .refusal r := rfl
@[simp] theorem State.refuse_draws (s : State) (r : RefusalReason) : (s.refuse r).draws = s.draws := rfl

/-! ### raiseFault -/

@[simp] theorem State.raiseFault_hw (s : State) (f : FaultCode) : (s.raiseFault f).hw = s.hw := rfl
@[simp] theorem State.raiseFault_c1 (s : State) (f : FaultCode) : (s.raiseFault f).c1 = s.c1 := rfl
@[simp] theorem State.raiseFault_c2 (s : State) (f : FaultCode) : (s.raiseFault f).c2 = s.c2 := rfl
@[simp] theorem State.raiseFault_c3 (s : State) (f : FaultCode) : (s.raiseFault f).c3 = s.c3 := rfl
@[simp] theorem State.raiseFault_pend (s : State) (f : FaultCode) : (s.raiseFault f).pend = s.pend := rfl
@[simp] theorem State.raiseFault_ovf (s : State) (f : FaultCode) : (s.raiseFault f).ovf = s.ovf := rfl
@[simp] theorem State.raiseFault_guard (s : State) (f : FaultCode) : (s.raiseFault f).guard = s.guard := rfl
@[simp] theorem State.raiseFault_lfc (s : State) (f : FaultCode) : (s.raiseFault f).lfc = s.lfc := rfl
@[simp] theorem State.raiseFault_mode (s : State) (f : FaultCode) : (s.raiseFault f).mode = s.mode := rfl
@[simp] theorem State.raiseFault_pscEn (s : State) (f : FaultCode) : (s.raiseFault f).pscEn = s.pscEn := rfl
@[simp] theorem State.raiseFault_extEn (s : State) (f : FaultCode) : (s.raiseFault f).extEn = s.extEn := rfl
@[simp] theorem State.raiseFault_smpEn (s : State) (f : FaultCode) : (s.raiseFault f).smpEn = s.smpEn := rfl
@[simp] theorem State.raiseFault_adcEn (s : State) (f : FaultCode) : (s.raiseFault f).adcEn = s.adcEn := rfl
@[simp] theorem State.raiseFault_led (s : State) (f : FaultCode) : (s.raiseFault f).led = s.led := rfl
@[simp] theorem State.raiseFault_btnN (s : State) (f : FaultCode) : (s.raiseFault f).btnN = s.btnN := rfl
@[simp] theorem State.raiseFault_bat (s : State) (f : FaultCode) : (s.raiseFault f).bat = s.bat := rfl
@[simp] theorem State.raiseFault_faults (s : State) (f : FaultCode) : (s.raiseFault f).faults = if f ∈ s.faults then s.faults else f :: s.faults := rfl
@[simp] theorem State.raiseFault_refused (s : State) (f : FaultCode) : (s.raiseFault f).refused = s.refused := rfl
@[simp] theorem State.raiseFault_cfg (s : State) (f : FaultCode) : (s.raiseFault f).cfg = s.cfg := rfl
@[simp] theorem State.raiseFault_schedule (s : State) (f : FaultCode) : (s.raiseFault f).schedule = s.schedule := rfl
@[simp] theorem State.raiseFault_resp (s : State) (f : FaultCode) : (s.raiseFault f).resp = s.resp := rfl
@[simp] theorem State.raiseFault_draws (s : State) (f : FaultCode) : (s.raiseFault f).draws = s.draws := rfl

/-! ### clearOverflow -/

@[simp] theorem State.clearOverflow_hw (s : State) : (s.clearOverflow).hw = s.hw := rfl
@[simp] theorem State.clearOverflow_c1 (s : State) : (s.clearOverflow).c1 = s.c1 := rfl
@[simp] theorem State.clearOverflow_c2 (s : State) : (s.clearOverflow).c2 = s.c2 := rfl
@[simp] theorem State.clearOverflow_c3 (s : State) : (s.clearOverflow).c3 = s.c3 := rfl
@[simp] theorem State.clearOverflow_pend (s : State) : (s.clearOverflow).pend = s.pend := rfl
@[simp] theorem State.clearOverflow_ovf (s : State) : (s.clearOverflow).ovf = false := rfl
@[simp] theorem State.clearOverflow_guard (s : State) : (s.clearOverflow).guard = s.guard := rfl
@[simp] theorem State.clearOverflow_lfc (s : State) : (s.clearOverflow).lfc = s.lfc := rfl
@[simp] theorem State.clearOverflow_mode (s : State) : (s.clearOverflow).mode = s.mode := rfl
@[simp] theorem State.clearOverflow_pscEn (s : State) : (s.clearOverflow).pscEn = s.pscEn := rfl
@[simp] theorem State.clearOverflow_extEn (s : State) : (s.clearOverflow).extEn = s.extEn := rfl
@[simp] theorem State.clearOverflow_smpEn (s : State) : (s.clearOverflow).smpEn = s.smpEn := rfl
@[simp] theorem State.clearOverflow_adcEn (s : State) : (s.clearOverflow).adcEn = s.adcEn := rfl
@[simp] theorem State.clearOverflow_led (s : State) : (s.clearOverflow).led = s.led := rfl
@[simp] theorem State.clearOverflow_btnN (s : State) : (s.clearOverflow).btnN = s.btnN := rfl
@[simp] theorem State.clearOverflow_bat (s : State) : (s.clearOverflow).bat = s.bat := rfl
@[simp] theorem State.clearOverflow_faults (s : State) : (s.clearOverflow).faults = s.faults := rfl
@[simp] theorem State.clearOverflow_refused (s : State) : (s.clearOverflow).refused = s.refused := rfl
@[simp] theorem State.clearOverflow_cfg (s : State) : (s.clearOverflow).cfg = s.cfg := rfl
@[simp] theorem State.clearOverflow_schedule (s : State) : (s.clearOverflow).schedule = s.schedule := rfl
@[simp] theorem State.clearOverflow_resp (s : State) : (s.clearOverflow).resp = s.resp := rfl
@[simp] theorem State.clearOverflow_draws (s : State) : (s.clearOverflow).draws = s.draws := rfl

/-! ### setGuard -/

@[simp] theorem State.setGuard_hw (s : State) (b : Bool) : (s.setGuard b).hw = s.hw := rfl
@[simp] theorem State.setGuard_c1 (s : State) (b : Bool) : (s.setGuard b).c1 = s.c1 := rfl
@[simp] theorem State.setGuard_c2 (s : State) (b : Bool) : (s.setGuard b).c2 = s.c2 := rfl
@[simp] theorem State.setGuard_c3 (s : State) (b : Bool) : (s.setGuard b).c3 = s.c3 := rfl
@[simp] theorem State.setGuard_pend (s : State) (b : Bool) : (s.setGuard b).pend = s.pend := rfl
@[simp] theorem State.setGuard_ovf (s : State) (b : Bool) : (s.setGuard b).ovf = s.ovf := rfl
@[simp] theorem State.setGuard_guard (s : State) (b : Bool) : (s.setGuard b).guard = b := rfl
@[simp] theorem State.setGuard_lfc (s : State) (b : Bool) : (s.setGuard b).lfc = s.lfc := rfl
@[simp] theorem State.setGuard_mode (s : State) (b : Bool) : (s.setGuard b).mode = s.mode := rfl
@[simp] theorem State.setGuard_pscEn (s : State) (b : Bool) : (s.setGuard b).pscEn = s.pscEn := rfl
@[simp] theorem State.setGuard_extEn (s : State) (b : Bool) : (s.setGuard b).extEn = s.extEn := rfl
@[simp] theorem State.setGuard_smpEn (s : State) (b : Bool) : (s.setGuard b).smpEn = s.smpEn := rfl
@[simp] theorem State.setGuard_adcEn (s : State) (b : Bool) : (s.setGuard b).adcEn = s.adcEn := rfl
@[simp] theorem State.setGuard_led (s : State) (b : Bool) : (s.setGuard b).led = s.led := rfl
@[simp] theorem State.setGuard_btnN (s : State) (b : Bool) : (s.setGuard b).btnN = s.btnN := rfl
@[simp] theorem State.setGuard_bat (s : State) (b : Bool) : (s.setGuard b).bat = s.bat := rfl
@[simp] theorem State.setGuard_faults (s : State) (b : Bool) : (s.setGuard b).faults = s.faults := rfl
@[simp] theorem State.setGuard_refused (s : State) (b : Bool) : (s.setGuard b).refused = s.refused := rfl
@[simp] theorem State.setGuard_cfg (s : State) (b : Bool) : (s.setGuard b).cfg = s.cfg := rfl
@[simp] theorem State.setGuard_schedule (s : State) (b : Bool) : (s.setGuard b).schedule = s.schedule := rfl
@[simp] theorem State.setGuard_resp (s : State) (b : Bool) : (s.setGuard b).resp = s.resp := rfl
@[simp] theorem State.setGuard_draws (s : State) (b : Bool) : (s.setGuard b).draws = s.draws := rfl

/-! ### setLed -/

@[simp] theorem State.setLed_hw (s : State) (b : Bool) : (s.setLed b).hw = s.hw := rfl
@[simp] theorem State.setLed_c1 (s : State) (b : Bool) : (s.setLed b).c1 = s.c1 := rfl
@[simp] theorem State.setLed_c2 (s : State) (b : Bool) : (s.setLed b).c2 = s.c2 := rfl
@[simp] theorem State.setLed_c3 (s : State) (b : Bool) : (s.setLed b).c3 = s.c3 := rfl
@[simp] theorem State.setLed_pend (s : State) (b : Bool) : (s.setLed b).pend = s.pend := rfl
@[simp] theorem State.setLed_ovf (s : State) (b : Bool) : (s.setLed b).ovf = s.ovf := rfl
@[simp] theorem State.setLed_guard (s : State) (b : Bool) : (s.setLed b).guard = s.guard := rfl
@[simp] theorem State.setLed_lfc (s : State) (b : Bool) : (s.setLed b).lfc = s.lfc := rfl
@[simp] theorem State.setLed_mode (s : State) (b : Bool) : (s.setLed b).mode = s.mode := rfl
@[simp] theorem State.setLed_pscEn (s : State) (b : Bool) : (s.setLed b).pscEn = s.pscEn := rfl
@[simp] theorem State.setLed_extEn (s : State) (b : Bool) : (s.setLed b).extEn = s.extEn := rfl
@[simp] theorem State.setLed_smpEn (s : State) (b : Bool) : (s.setLed b).smpEn = s.smpEn := rfl
@[simp] theorem State.setLed_adcEn (s : State) (b : Bool) : (s.setLed b).adcEn = s.adcEn := rfl
@[simp] theorem State.setLed_led (s : State) (b : Bool) : (s.setLed b).led = b := rfl
@[simp] theorem State.setLed_btnN (s : State) (b : Bool) : (s.setLed b).btnN = s.btnN := rfl
@[simp] theorem State.setLed_bat (s : State) (b : Bool) : (s.setLed b).bat = s.bat := rfl
@[simp] theorem State.setLed_faults (s : State) (b : Bool) : (s.setLed b).faults = s.faults := rfl
@[simp] theorem State.setLed_refused (s : State) (b : Bool) : (s.setLed b).refused = s.refused := rfl
@[simp] theorem State.setLed_cfg (s : State) (b : Bool) : (s.setLed b).cfg = s.cfg := rfl
@[simp] theorem State.setLed_schedule (s : State) (b : Bool) : (s.setLed b).schedule = s.schedule := rfl
@[simp] theorem State.setLed_resp (s : State) (b : Bool) : (s.setLed b).resp = s.resp := rfl
@[simp] theorem State.setLed_draws (s : State) (b : Bool) : (s.setLed b).draws = s.draws := rfl

/-! ### setButton -/

@[simp] theorem State.setButton_hw (s : State) (b : Bool) : (s.setButton b).hw = s.hw := rfl
@[simp] theorem State.setButton_c1 (s : State) (b : Bool) : (s.setButton b).c1 = s.c1 := rfl
@[simp] theorem State.setButton_c2 (s : State) (b : Bool) : (s.setButton b).c2 = s.c2 := rfl
@[simp] theorem State.setButton_c3 (s : State) (b : Bool) : (s.setButton b).c3 = s.c3 := rfl
@[simp] theorem State.setButton_pend (s : State) (b : Bool) : (s.setButton b).pend = s.pend := rfl
@[simp] theorem State.setButton_ovf (s : State) (b : Bool) : (s.setButton b).ovf = s.ovf := rfl
@[simp] theorem State.setButton_guard (s : State) (b : Bool) : (s.setButton b).guard = s.guard := rfl
@[simp] theorem State.setButton_lfc (s : State) (b : Bool) : (s.setButton b).lfc = s.lfc := rfl
@[simp] theorem State.setButton_mode (s : State) (b : Bool) : (s.setButton b).mode = s.mode := rfl
@[simp] theorem State.setButton_pscEn (s : State) (b : Bool) : (s.setButton b).pscEn = s.pscEn := rfl
@[simp] theorem State.setButton_extEn (s : State) (b : Bool) : (s.setButton b).extEn = s.extEn := rfl
@[simp] theorem State.setButton_smpEn (s : State) (b : Bool) : (s.setButton b).smpEn = s.smpEn := rfl
@[simp] theorem State.setButton_adcEn (s : State) (b : Bool) : (s.setButton b).adcEn = s.adcEn := rfl
@[simp] theorem State.setButton_led (s : State) (b : Bool) : (s.setButton b).led = s.led := rfl
@[simp] theorem State.setButton_btnN (s : State) (b : Bool) : (s.setButton b).btnN = b := rfl
@[simp] theorem State.setButton_bat (s : State) (b : Bool) : (s.setButton b).bat = s.bat := rfl
@[simp] theorem State.setButton_faults (s : State) (b : Bool) : (s.setButton b).faults = s.faults := rfl
@[simp] theorem State.setButton_refused (s : State) (b : Bool) : (s.setButton b).refused = s.refused := rfl
@[simp] theorem State.setButton_cfg (s : State) (b : Bool) : (s.setButton b).cfg = s.cfg := rfl
@[simp] theorem State.setButton_schedule (s : State) (b : Bool) : (s.setButton b).schedule = s.schedule := rfl
@[simp] theorem State.setButton_resp (s : State) (b : Bool) : (s.setButton b).resp = s.resp := rfl
@[simp] theorem State.setButton_draws (s : State) (b : Bool) : (s.setButton b).draws = s.draws := rfl

/-! ### setPending -/

@[simp] theorem State.setPending_hw (s : State) (b : Bool) : (s.setPending b).hw = s.hw := rfl
@[simp] theorem State.setPending_c1 (s : State) (b : Bool) : (s.setPending b).c1 = s.c1 := rfl
@[simp] theorem State.setPending_c2 (s : State) (b : Bool) : (s.setPending b).c2 = s.c2 := rfl
@[simp] theorem State.setPending_c3 (s : State) (b : Bool) : (s.setPending b).c3 = s.c3 := rfl
@[simp] theorem State.setPending_pend (s : State) (b : Bool) : (s.setPending b).pend = b := rfl
@[simp] theorem State.setPending_ovf (s : State) (b : Bool) : (s.setPending b).ovf = s.ovf := rfl
@[simp] theorem State.setPending_guard (s : State) (b : Bool) : (s.setPending b).guard = s.guard := rfl
@[simp] theorem State.setPending_lfc (s : State) (b : Bool) : (s.setPending b).lfc = s.lfc := rfl
@[simp] theorem State.setPending_mode (s : State) (b : Bool) : (s.setPending b).mode = s.mode := rfl
@[simp] theorem State.setPending_pscEn (s : State) (b : Bool) : (s.setPending b).pscEn = s.pscEn := rfl
@[simp] theorem State.setPending_extEn (s : State) (b : Bool) : (s.setPending b).extEn = s.extEn := rfl
@[simp] theorem State.setPending_smpEn (s : State) (b : Bool) : (s.setPending b).smpEn = s.smpEn := rfl
@[simp] theorem State.setPending_adcEn (s : State) (b : Bool) : (s.setPending b).adcEn = s.adcEn := rfl
@[simp] theorem State.setPending_led (s : State) (b : Bool) : (s.setPending b).led = s.led := rfl
@[simp] theorem State.setPending_btnN (s : State) (b : Bool) : (s.setPending b).btnN = s.btnN := rfl
@[simp] theorem State.setPending_bat (s : State) (b : Bool) : (s.setPending b).bat = s.bat := rfl
@[simp] theorem State.setPending_faults (s : State) (b : Bool) : (s.setPending b).faults = s.faults := rfl
@[simp] theorem State.setPending_refused (s : State) (b : Bool) : (s.setPending b).refused = s.refused := rfl
@[simp] theorem State.setPending_cfg (s : State) (b : Bool) : (s.setPending b).cfg = s.cfg := rfl
@[simp] theorem State.setPending_schedule (s : State) (b : Bool) : (s.setPending b).schedule = s.schedule := rfl
@[simp] theorem State.setPending_resp (s : State) (b : Bool) : (s.setPending b).resp = s.resp := rfl
@[simp] theorem State.setPending_draws (s : State) (b : Bool) : (s.setPending b).draws = s.draws := rfl

/-! ### zeroCount -/

@[simp] theorem State.zeroCount_hw (s : State) : (s.zeroCount).hw = 0 := rfl
@[simp] theorem State.zeroCount_c1 (s : State) : (s.zeroCount).c1 = 0 := rfl
@[simp] theorem State.zeroCount_c2 (s : State) : (s.zeroCount).c2 = 0 := rfl
@[simp] theorem State.zeroCount_c3 (s : State) : (s.zeroCount).c3 = 0 := rfl
@[simp] theorem State.zeroCount_pend (s : State) : (s.zeroCount).pend = s.pend := rfl
@[simp] theorem State.zeroCount_ovf (s : State) : (s.zeroCount).ovf = s.ovf := rfl
@[simp] theorem State.zeroCount_guard (s : State) : (s.zeroCount).guard = s.guard := rfl
@[simp] theorem State.zeroCount_lfc (s : State) : (s.zeroCount).lfc = s.lfc := rfl
@[simp] theorem State.zeroCount_mode (s : State) : (s.zeroCount).mode = s.mode := rfl
@[simp] theorem State.zeroCount_pscEn (s : State) : (s.zeroCount).pscEn = s.pscEn := rfl
@[simp] theorem State.zeroCount_extEn (s : State) : (s.zeroCount).extEn = s.extEn := rfl
@[simp] theorem State.zeroCount_smpEn (s : State) : (s.zeroCount).smpEn = s.smpEn := rfl
@[simp] theorem State.zeroCount_adcEn (s : State) : (s.zeroCount).adcEn = s.adcEn := rfl
@[simp] theorem State.zeroCount_led (s : State) : (s.zeroCount).led = s.led := rfl
@[simp] theorem State.zeroCount_btnN (s : State) : (s.zeroCount).btnN = s.btnN := rfl
@[simp] theorem State.zeroCount_bat (s : State) : (s.zeroCount).bat = s.bat := rfl
@[simp] theorem State.zeroCount_faults (s : State) : (s.zeroCount).faults = s.faults := rfl
@[simp] theorem State.zeroCount_refused (s : State) : (s.zeroCount).refused = s.refused := rfl
@[simp] theorem State.zeroCount_cfg (s : State) : (s.zeroCount).cfg = s.cfg := rfl
@[simp] theorem State.zeroCount_schedule (s : State) : (s.zeroCount).schedule = s.schedule := rfl
@[simp] theorem State.zeroCount_resp (s : State) : (s.zeroCount).resp = s.resp := rfl
@[simp] theorem State.zeroCount_draws (s : State) : (s.zeroCount).draws = s.draws := rfl

/-! ### setup -/

@[simp] theorem State.setup_hw (s : State) : (s.setup).hw = 0 := rfl
@[simp] theorem State.setup_c1 (s : State) : (s.setup).c1 = 0 := rfl
@[simp] theorem State.setup_c2 (s : State) : (s.setup).c2 = 0 := rfl
@[simp] theorem State.setup_c3 (s : State) : (s.setup).c3 = 0 := rfl
@[simp] theorem State.setup_pend (s : State) : (s.setup).pend = false := rfl
@[simp] theorem State.setup_ovf (s : State) : (s.setup).ovf = s.ovf := rfl
@[simp] theorem State.setup_guard (s : State) : (s.setup).guard = s.guard := rfl
@[simp] theorem State.setup_lfc (s : State) : (s.setup).lfc = s.lfc := rfl
@[simp] theorem State.setup_mode (s : State) : (s.setup).mode = s.mode := rfl
@[simp] theorem State.setup_pscEn (s : State) : (s.setup).pscEn = s.pscEn := rfl
@[simp] theorem State.setup_extEn (s : State) : (s.setup).extEn = s.extEn := rfl
@[simp] theorem State.setup_smpEn (s : State) : (s.setup).smpEn = s.smpEn := rfl
@[simp] theorem State.setup_adcEn (s : State) : (s.setup).adcEn = s.adcEn := rfl
@[simp] theorem State.setup_led (s : State) : (s.setup).led = s.led := rfl
@[simp] theorem State.setup_btnN (s : State) : (s.setup).btnN = s.btnN := rfl
@[simp] theorem State.setup_bat (s : State) : (s.setup).bat = s.bat := rfl
@[simp] theorem State.setup_faults (s : State) : (s.setup).faults = s.faults := rfl
@[simp] theorem State.setup_refused (s : State) : (s.setup).refused = s.refused := rfl
@[simp] theorem State.setup_cfg (s : State) : (s.setup).cfg = s.cfg := rfl
@[simp] theorem State.setup_schedule (s : State) : (s.setup).schedule = s.schedule := rfl
@[simp] theorem State.setup_resp (s : State) : (s.setup).resp = s.resp := rfl
@[simp] theorem State.setup_draws (s : State) : (s.setup).draws = s.draws := rfl

/-! ### capture -/

@[simp] theorem State.capture_hw (s : State) : (s.capture).hw = s.hw := rfl
@[simp] theorem State.capture_c1 (s : State) : (s.capture).c1 = s.c1 := rfl
@[simp] theorem State.capture_c2 (s : State) : (s.capture).c2 = s.c2 := rfl
@[simp] theorem State.capture_c3 (s : State) : (s.capture).c3 = s.c3 := rfl
@[simp] theorem State.capture_pend (s : State) : (s.capture).pend = s.pend := rfl
@[simp] theorem State.capture_ovf (s : State) : (s.capture).ovf = s.ovf := rfl
@[simp] theorem State.capture_guard (s : State) : (s.capture).guard = s.guard := rfl
@[simp] theorem State.capture_lfc (s : State) : (s.capture).lfc = if s.captures then s.extendedCount else s.lfc := rfl
@[simp] theorem State.capture_mode (s : State) : (s.capture).mode = s.mode := rfl
@[simp] theorem State.capture_pscEn (s : State) : (s.capture).pscEn = s.pscEn := rfl
@[simp] theorem State.capture_extEn (s : State) : (s.capture).extEn = s.extEn := rfl
@[simp] theorem State.capture_smpEn (s : State) : (s.capture).smpEn = s.smpEn := rfl
@[simp] theorem State.capture_adcEn (s : State) : (s.capture).adcEn = s.adcEn := rfl
@[simp] theorem State.capture_led (s : State) : (s.capture).led = s.led := rfl
@[simp] theorem State.capture_btnN (s : State) : (s.capture).btnN = s.btnN := rfl
@[simp] theorem State.capture_bat (s : State) : (s.capture).bat = s.bat := rfl
@[simp] theorem State.capture_faults (s : State) : (s.capture).faults = s.faults := rfl
@[simp] theorem State.capture_refused (s : State) : (s.capture).refused = s.refused := rfl
@[simp] theorem State.capture_cfg (s : State) : (s.capture).cfg = s.cfg := rfl
@[simp] theorem State.capture_schedule (s : State) : (s.capture).schedule = s.schedule := rfl
@[simp] theorem State.capture_resp (s : State) : (s.capture).resp = s.resp := rfl
@[simp] theorem State.capture_draws (s : State) : (s.capture).draws = if s.takesDraw then s.draws + 1 else s.draws := rfl

/-! ### rippleCarry -/

@[simp] theorem State.rippleCarry_hw (s : State) : (s.rippleCarry).hw = s.hw := rfl
@[simp] theorem State.rippleCarry_pend (s : State) : (s.rippleCarry).pend = s.pend := rfl
@[simp] theorem State.rippleCarry_guard (s : State) : (s.rippleCarry).guard = s.guard := rfl
@[simp] theorem State.rippleCarry_lfc (s : State) : (s.rippleCarry).lfc = s.lfc := rfl
@[simp] theorem State.rippleCarry_mode (s : State) : (s.rippleCarry).mode = s.mode := rfl
@[simp] theorem State.rippleCarry_pscEn (s : State) : (s.rippleCarry).pscEn = s.pscEn := rfl
@[simp] theorem State.rippleCarry_extEn (s : State) : (s.rippleCarry).extEn = s.extEn := rfl
@[simp] theorem State.rippleCarry_smpEn (s : State) : (s.rippleCarry).smpEn = s.smpEn := rfl
@[simp] theorem State.rippleCarry_adcEn (s : State) : (s.rippleCarry).adcEn = s.adcEn := rfl
@[simp] theorem State.rippleCarry_led (s : State) : (s.rippleCarry).led = s.led := rfl
@[simp] theorem State.rippleCarry_btnN (s : State) : (s.rippleCarry).btnN = s.btnN := rfl
@[simp] theorem State.rippleCarry_bat (s : State) : (s.rippleCarry).bat = s.bat := rfl
@[simp] theorem State.rippleCarry_faults (s : State) : (s.rippleCarry).faults = s.faults := rfl
@[simp] theorem State.rippleCarry_refused (s : State) : (s.rippleCarry).refused = s.refused := rfl
@[simp] theorem State.rippleCarry_cfg (s : State) : (s.rippleCarry).cfg = s.cfg := rfl
@[simp] theorem State.rippleCarry_schedule (s : State) : (s.rippleCarry).schedule = s.schedule := rfl
@[simp] theorem State.rippleCarry_resp (s : State) : (s.rippleCarry).resp = s.resp := rfl
@[simp] theorem State.rippleCarry_draws (s : State) : (s.rippleCarry).draws = s.draws := rfl

/-! ### enterBaseFrequency -/

@[simp] theorem State.enterBaseFrequency_hw (s : State) : (s.enterBaseFrequency).hw = 0 := rfl
@[simp] theorem State.enterBaseFrequency_c1 (s : State) : (s.enterBaseFrequency).c1 = 0 := rfl
@[simp] theorem State.enterBaseFrequency_c2 (s : State) : (s.enterBaseFrequency).c2 = 0 := rfl
@[simp] theorem State.enterBaseFrequency_c3 (s : State) : (s.enterBaseFrequency).c3 = 0 := rfl
@[simp] theorem State.enterBaseFrequency_pend (s : State) : (s.enterBaseFrequency).pend = false := rfl
@[simp] theorem State.enterBaseFrequency_ovf (s : State) : (s.enterBaseFrequency).ovf = s.ovf := rfl
@[simp] theorem State.enterBaseFrequency_guard (s : State) : (s.enterBaseFrequency).guard = s.guard := rfl
@[simp] theorem State.enterBaseFrequency_lfc (s : State) : (s.enterBaseFrequency).lfc = s.lfc := rfl
@[simp] theorem State.enterBaseFrequency_mode (s : State) : (s.enterBaseFrequency).mode = s.mode := rfl
@[simp] theorem State.enterBaseFrequency_pscEn (s : State) : (s.enterBaseFrequency).pscEn = false := rfl
@[simp] theorem State.enterBaseFrequency_extEn (s : State) : (s.enterBaseFrequency).extEn = true := rfl
@[simp] theorem State.enterBaseFrequency_smpEn (s : State) : (s.enterBaseFrequency).smpEn = true := rfl
@[simp] theorem State.enterBaseFrequency_adcEn (s : State) : (s.enterBaseFrequency).adcEn = false := rfl
@[simp] theorem State.enterBaseFrequency_led (s : State) : (s.enterBaseFrequency).led = s.led := rfl
@[simp] theorem State.enterBaseFrequency_btnN (s : State) : (s.enterBaseFrequency).btnN = s.btnN := rfl
@[simp] theorem State.enterBaseFrequency_bat (s : State) : (s.enterBaseFrequency).bat = s.bat := rfl
@[simp] theorem State.enterBaseFrequency_faults (s : State) : (s.enterBaseFrequency).faults = s.faults := rfl
@[simp] theorem State.enterBaseFrequency_refused (s : State) : (s.enterBaseFrequency).refused = s.refused := rfl
@[simp] theorem State.enterBaseFrequency_cfg (s : State) : (s.enterBaseFrequency).cfg = s.cfg := rfl
@[simp] theorem State.enterBaseFrequency_schedule (s : State) : (s.enterBaseFrequency).schedule = s.schedule := rfl
@[simp] theorem State.enterBaseFrequency_resp (s : State) : (s.enterBaseFrequency).resp = s.resp := rfl
@[simp] theorem State.enterBaseFrequency_draws (s : State) : (s.enterBaseFrequency).draws = s.draws := rfl

/-! ### enterExtraFrequency -/

@[simp] theorem State.enterExtraFrequency_hw (s : State) : (s.enterExtraFrequency).hw = 0 := rfl
@[simp] theorem State.enterExtraFrequency_c1 (s : State) : (s.enterExtraFrequency).c1 = 0 := rfl
@[simp] theorem State.enterExtraFrequency_c2 (s : State) : (s.enterExtraFrequency).c2 = 0 := rfl
@[simp] theorem State.enterExtraFrequency_c3 (s : State) : (s.enterExtraFrequency).c3 = 0 := rfl
@[simp] theorem State.enterExtraFrequency_pend (s : State) : (s.enterExtraFrequency).pend = false := rfl
@[simp] theorem State.enterExtraFrequency_ovf (s : State) : (s.enterExtraFrequency).ovf = s.ovf := rfl
@[simp] theorem State.enterExtraFrequency_guard (s : State) : (s.enterExtraFrequency).guard = s.guard := rfl
@[simp] theorem State.enterExtraFrequency_lfc (s : State) : (s.enterExtraFrequency).lfc = s.lfc := rfl
@[simp] theorem State.enterExtraFrequency_mode (s : State) : (s.enterExtraFrequency).mode = s.mode := rfl
@[simp] theorem State.enterExtraFrequency_pscEn (s : State) : (s.enterExtraFrequency).pscEn = true := rfl
@[simp] theorem State.enterExtraFrequency_extEn (s : State) : (s.enterExtraFrequency).extEn = true := rfl
@[simp] theorem State.enterExtraFrequency_smpEn (s : State) : (s.enterExtraFrequency).smpEn = true := rfl
@[simp] theorem State.enterExtraFrequency_adcEn (s : State) : (s.enterExtraFrequency).adcEn = false := rfl
@[simp] theorem State.enterExtraFrequency_led (s : State) : (s.enterExtraFrequency).led = s.led := rfl
@[simp] theorem State.enterExtraFrequency_btnN (s : State) : (s.enterExtraFrequency).btnN = s.btnN := rfl
@[simp] theorem State.enterExtraFrequency_bat (s : State) : (s.enterExtraFrequency).bat = s.bat := rfl
@[simp] theorem State.enterExtraFrequency_faults (s : State) : (s.enterExtraFrequency).faults = s.faults := rfl
@[simp] theorem State.enterExtraFrequency_refused (s : State) : (s.enterExtraFrequency).refused = s.refused := rfl
@[simp] theorem State.enterExtraFrequency_cfg (s : State) : (s.enterExtraFrequency).cfg = s.cfg := rfl
@[simp] theorem State.enterExtraFrequency_schedule (s : State) : (s.enterExtraFrequency).schedule = s.schedule := rfl
@[simp] theorem State.enterExtraFrequency_resp (s : State) : (s.enterExtraFrequency).resp = s.resp := rfl
@[simp] theorem State.enterExtraFrequency_draws (s : State) : (s.enterExtraFrequency).draws = s.draws := rfl

/-! ### enterBatteryVoltage -/

@[simp] theorem State.enterBatteryVoltage_hw (s : State) : (s.enterBatteryVoltage).hw = s.hw := rfl
@[simp] theorem State.enterBatteryVoltage_c1 (s : State) : (s.enterBatteryVoltage).c1 = s.c1 := rfl
@[simp] theorem State.enterBatteryVoltage_c2 (s : State) : (s.enterBatteryVoltage).c2 = s.c2 := rfl
@[simp] theorem State.enterBatteryVoltage_c3 (s : State) : (s.enterBatteryVoltage).c3 = s.c3 := rfl
@[simp] theorem State.enterBatteryVoltage_pend (s : State) : (s.enterBatteryVoltage).pend = s.pend := rfl
@[simp] theorem State.enterBatteryVoltage_ovf (s : State) : (s.enterBatteryVoltage).ovf = s.ovf := rfl
@[simp] theorem State.enterBatteryVoltage_guard (s : State) : (s.enterBatteryVoltage).guard = s.guard := rfl
@[simp] theorem State.enterBatteryVoltage_lfc (s : State) : (s.enterBatteryVoltage).lfc = s.lfc := rfl
@[simp] theorem State.enterBatteryVoltage_mode (s : State) : (s.enterBatteryVoltage).mode = s.mode := rfl
@[simp] theorem State.enterBatteryVoltage_pscEn (s : State) : (s.enterBatteryVoltage).pscEn = s.pscEn := rfl
@[simp] theorem State.enterBatteryVoltage_extEn (s : State) : (s.enterBatteryVoltage).extEn = false := rfl
@[simp] theorem State.enterBatteryVoltage_smpEn (s : State) : (s.enterBatteryVoltage).smpEn = false := rfl
@[simp] theorem State.enterBatteryVoltage_adcEn (s : State) : (s.enterBatteryVoltage).adcEn = true := rfl
@[simp] theorem State.enterBatteryVoltage_led (s : State) : (s.enterBatteryVoltage).led = s.led := rfl
@[simp] theorem State.enterBatteryVoltage_btnN (s : State) : (s.enterBatteryVoltage).btnN = s.btnN := rfl
@[simp] theorem State.enterBatteryVoltage_bat (s : State) : (s.enterBatteryVoltage).bat = s.bat := rfl
@[simp] theorem State.enterBatteryVoltage_faults (s : State) : (s.enterBatteryVoltage).faults = s.faults := rfl
@[simp] theorem State.enterBatteryVoltage_refused (s : State) : (s.enterBatteryVoltage).refused = s.refused := rfl
@[simp] theorem State.enterBatteryVoltage_cfg (s : State) : (s.enterBatteryVoltage).cfg = s.cfg := rfl
@[simp] theorem State.enterBatteryVoltage_schedule (s : State) : (s.enterBatteryVoltage).schedule = s.schedule := rfl
@[simp] theorem State.enterBatteryVoltage_resp (s : State) : (s.enterBatteryVoltage).resp = s.resp := rfl
@[simp] theorem State.enterBatteryVoltage_draws (s : State) : (s.enterBatteryVoltage).draws = s.draws := rfl

/-! ### enterMode: the fields no entry action writes -/

@[simp] theorem State.enterMode_ovf (s : State) : s.enterMode.ovf = s.ovf := by
  unfold State.enterMode; repeat' split
  all_goals rfl
@[simp] theorem State.enterMode_guard (s : State) : s.enterMode.guard = s.guard := by
  unfold State.enterMode; repeat' split
  all_goals rfl
@[simp] theorem State.enterMode_lfc (s : State) : s.enterMode.lfc = s.lfc := by
  unfold State.enterMode; repeat' split
  all_goals rfl
@[simp] theorem State.enterMode_mode (s : State) : s.enterMode.mode = s.mode := by
  unfold State.enterMode; repeat' split
  all_goals rfl
@[simp] theorem State.enterMode_led (s : State) : s.enterMode.led = s.led := by
  unfold State.enterMode; repeat' split
  all_goals rfl
@[simp] theorem State.enterMode_btnN (s : State) : s.enterMode.btnN = s.btnN := by
  unfold State.enterMode; repeat' split
  all_goals rfl
@[simp] theorem State.enterMode_bat (s : State) : s.enterMode.bat = s.bat := by
  unfold State.enterMode; repeat' split
  all_goals rfl
@[simp] theorem State.enterMode_faults (s : State) : s.enterMode.faults = s.faults := by
  unfold State.enterMode; repeat' split
  all_goals rfl
@[simp] theorem State.enterMode_refused (s : State) : s.enterMode.refused = s.refused := by
  unfold State.enterMode; repeat' split
  all_goals rfl
@[simp] theorem State.enterMode_cfg (s : State) : s.enterMode.cfg = s.cfg := by
  unfold State.enterMode; repeat' split
  all_goals rfl
@[simp] theorem State.enterMode_schedule (s : State) : s.enterMode.schedule = s.schedule := by
  unfold State.enterMode; repeat' split
  all_goals rfl
@[simp] theorem State.enterMode_resp (s : State) : s.enterMode.resp = s.resp := by
  unfold State.enterMode; repeat' split
  all_goals rfl
@[simp] theorem State.enterMode_draws (s : State) : s.enterMode.draws = s.draws := by
  unfold State.enterMode; repeat' split
  all_goals rfl

theorem State.enterMode_of_base {s : State} (h : s.mode = baseFrequency) : s.enterMode = s.enterBaseFrequency := by
  simp [State.enterMode, h]

theorem State.enterMode_of_extra {s : State} (h : s.mode = extraFrequency) : s.enterMode = s.enterExtraFrequency := by
  simp [State.enterMode, h]

theorem State.enterMode_of_battery {s : State} (h : s.mode = batteryVoltage) :
    s.enterMode = s.enterBatteryVoltage := by
  simp [State.enterMode, h]

end Sys2Proof.Machine
end

