-- ==== Sys2Proof/Laws/Ops.lean ====
section
/-! SUPPORT. For each shared operation, what it can do, said once: provers cite these and do not unfold the operation. -/

namespace Sys2Proof.Machine

/-! ### The carry bytes (40_counter.md R71) -/

/-- The carry bytes as one 24-bit number, `{c3, c2, c1}`. -/
def carryValue (s : State) : Nat := s.c1.toNat + 256 * s.c2.toNat + 65536 * s.c3.toNat

theorem carryValue_lt (s : State) : carryValue s < 2 ^ 24 := by
  have h1 := s.c1.isLt
  have h2 := s.c2.isLt
  have h3 := s.c3.isLt
  simp only [carryValue]; omega

theorem inc8_toNat (v : Byte) : (inc8 v).toNat = (v.toNat + 1) % 256 := by simp [inc8]

theorem inc8_eq_zero (v : Byte) : inc8 v = 0 ↔ v.toNat = 255 := by
  have h := v.isLt
  rw [← BitVec.toNat_inj, inc8_toNat]
  change (v.toNat + 1) % 256 = 0 ↔ _
  omega

/-- A carry adds one to the 24-bit number, modulo 2^24. -/
theorem State.rippleCarry_value (s : State) : carryValue s.rippleCarry = (carryValue s + 1) % 2 ^ 24 := by
  have h1 := s.c1.isLt
  have h2 := s.c2.isLt
  have h3 := s.c3.isLt
  simp only [carryValue, State.rippleCarry, inc8_eq_zero]
  by_cases g1 : s.c1.toNat = 255
  · by_cases g2 : s.c2.toNat = 255
    · simp only [g1, g2, if_true, inc8_eq_zero, and_self, inc8_toNat]; omega
    · simp only [g1, g2, if_true, inc8_eq_zero, and_false, if_false, inc8_toNat]; omega
  · simp only [g1, if_false, false_and, inc8_toNat]; omega

/-- A carry sets `ovf` exactly when the 24-bit number wraps, and never clears it. -/
theorem State.rippleCarry_ovf (s : State) :
    s.rippleCarry.ovf = (s.ovf || decide (s.c1 = 255 ∧ s.c2 = 255 ∧ s.c3 = 255)) := by
  have e : ∀ v : Byte, v = 255 ↔ v.toNat = 255 := fun v => by rw [← BitVec.toNat_inj]; rfl
  simp only [State.rippleCarry, inc8_eq_zero, e]
  by_cases g1 : s.c1.toNat = 255
  · by_cases g2 : s.c2.toNat = 255
    · simp only [g1, g2, if_true, inc8_eq_zero, and_self, true_and]
      split <;> simp [*]
    · simp only [g1, g2, if_true, inc8_eq_zero, false_and, and_false, if_false, decide_false, Bool.or_false]
  · simp only [g1, if_false, false_and, decide_false, Bool.or_false]

/-! ### The modes (42_mode_fsm.md R90) -/

theorem nextMode_toNat (m : BitVec 2) : (nextMode m).toNat = (m.toNat + 1) % 3 := by
  have := m.isLt
  simp only [nextMode, BitVec.toNat_ofNat]; omega

theorem nextMode_ne_three (m : BitVec 2) : nextMode m ≠ 3 := by
  intro h
  have := congrArg BitVec.toNat h
  rw [nextMode_toNat] at this
  change _ = 3 at this
  omega

/-- The three legal modes. -/
theorem mode_cases {m : BitVec 2} (h : m ≠ 3) : m = baseFrequency ∨ m = extraFrequency ∨ m = batteryVoltage := by
  revert m; decide

/-! ### The capture (41_sampler.md R80) -/

theorem State.captures_of_clear {s : State} (h : s.guard = false) : s.captures = true := by
  simp [State.captures, h]

theorem State.captures_of_guarded {s : State} (h : s.guard = true) (lag : s.cfg.guardLag = false) :
    s.captures = false := by
  simp [State.captures, h, lag]

theorem State.takesDraw_of_noLag {s : State} (lag : s.cfg.guardLag = false) : s.takesDraw = false := by
  simp [State.takesDraw, lag]

/-! ### The fault record (60_exceptions.md R128) -/

theorem State.mem_raiseFault (s : State) (f g : FaultCode) :
    g ∈ (s.raiseFault f).faults ↔ g ∈ s.faults ∨ g = f := by
  simp only [State.raiseFault_faults]
  split <;> simp_all [or_comm]

theorem State.raiseFault_nodup {s : State} (h : s.faults.Nodup) (f : FaultCode) : (s.raiseFault f).faults.Nodup := by
  simp only [State.raiseFault_faults]
  split
  · exact h
  · exact List.nodup_cons.mpr ⟨‹_›, h⟩

/-! ### The battery sample (42_mode_fsm.md R96) -/

theorem sampleBits_lt (n : Nat) (v : BitVec 16) : (sampleBits n v).toNat < 2 ^ n := by
  simp only [sampleBits, BitVec.toNat_ofNat]
  exact Nat.lt_of_le_of_lt (Nat.mod_le _ _) (Nat.mod_lt _ (Nat.two_pow_pos n))

theorem sampleBits_toNat (n : Nat) (v : BitVec 16) : (sampleBits n v).toNat = v.toNat % 2 ^ n := by
  have h := Nat.mod_le v.toNat (2 ^ n)
  have := v.isLt
  simp only [sampleBits, BitVec.toNat_ofNat]; omega

theorem sampleBits_of_fits {n : Nat} {v : BitVec 16} (h : v.toNat < 2 ^ n) : sampleBits n v = v := by
  apply BitVec.eq_of_toNat_eq
  rw [sampleBits_toNat, Nat.mod_eq_of_lt h]

/-! ### A wrap of `hw` (40_counter.md R70) -/

theorem State.wrapCounter_of_clear {s : State} (h : s.pend = false) :
    s.wrapCounter = { s with hw := 0, pend := true } := by
  simp [State.wrapCounter, h]

theorem State.wrapCounter_of_pending {s : State} (h : s.pend = true) :
    s.wrapCounter = { s.raiseFault .carryLost with hw := 0, pend := true } := by
  simp [State.wrapCounter, h]

end Sys2Proof.Machine
end

