-- ==== Sys2Proof/Laws/PerInstr.lean ====
section
/-! SUPPORT. The laws stated once per instruction, about the instruction as syntax: the fields of its word (30_encoding.md
R50, R57: only an EV word may carry an argument, and the host writes no EV word). -/

namespace Sys2Proof.Laws.WordFields

/-- The reserved field of the operation's word is 0, its kind bits are those of the operation's kind, and exactly the host's
operations have a host kind. -/
def Statement (i : Instr) : Prop :=
  fieldZ (encode i) = 0
    ∧ fieldK (encode i) = (match i.kind with | .hostRead => 0b00 | .hostWrite => 0b01 | .blockEvent => 0b10)
    ∧ (i.kind = .blockEvent ↔ i.agent ≠ .host)

theorem rdStatus : Statement .rdStatus := ⟨rfl, rfl, by decide⟩
theorem rdMode : Statement .rdMode := ⟨rfl, rfl, by decide⟩
theorem rdLfc0 : Statement .rdLfc0 := ⟨rfl, rfl, by decide⟩
theorem rdLfc1 : Statement .rdLfc1 := ⟨rfl, rfl, by decide⟩
theorem rdLfc2 : Statement .rdLfc2 := ⟨rfl, rfl, by decide⟩
theorem rdLfc3 : Statement .rdLfc3 := ⟨rfl, rfl, by decide⟩
theorem rdBatlo : Statement .rdBatlo := ⟨rfl, rfl, by decide⟩
theorem rdBathi : Statement .rdBathi := ⟨rfl, rfl, by decide⟩
theorem cmdGuardSet : Statement .cmdGuardSet := ⟨rfl, rfl, by decide⟩
theorem cmdGuardClr : Statement .cmdGuardClr := ⟨rfl, rfl, by decide⟩
theorem cmdOvfClr : Statement .cmdOvfClr := ⟨rfl, rfl, by decide⟩
theorem cmdModeAdv : Statement .cmdModeAdv := ⟨rfl, rfl, by decide⟩
theorem cmdLedOn : Statement .cmdLedOn := ⟨rfl, rfl, by decide⟩
theorem cmdLedOff : Statement .cmdLedOff := ⟨rfl, rfl, by decide⟩
theorem evCountEdge : Statement .evCountEdge := ⟨rfl, rfl, by decide⟩
theorem evCarryService : Statement .evCarryService := ⟨rfl, rfl, by decide⟩
theorem evWindowTick : Statement .evWindowTick := ⟨rfl, rfl, by decide⟩
theorem evBtnDown : Statement .evBtnDown := ⟨rfl, rfl, by decide⟩
theorem evBtnUp : Statement .evBtnUp := ⟨rfl, rfl, by decide⟩
theorem evAdcResult (v : BitVec 16) : Statement (.evAdcResult v) := by
  simp [Statement, encode, blockEventWord, Instr.kind, Instr.agent]
theorem evPor : Statement .evPor := ⟨rfl, rfl, by decide⟩

end Sys2Proof.Laws.WordFields
end

