-- ==== Sys2Proof/Tests/Slice0.lean ====
section
/-! SUPPORT. The model's own tests: the words of every operation written out from spec/30_encoding.md, the vectors of
spec/95_test_vectors.md (derived there from the rules, not from a run), the ill-formed terms, and for every obligation
with hypotheses a concrete state and operands that meet them. -/

namespace Sys2Proof.Tests

open Sys2Proof Sys2Proof.Machine

/-- The next state of an outcome. -/
def nextOf (r : Result) : Option State :=
  match r with
  | .next t => some t
  | .fault _ => none
  | .refused _ => none

/-- Whether an outcome is the stuck state of R129. -/
def isNoStep (r : Result) : Bool :=
  match r with
  | .fault .noStep => true
  | .fault .scheduleEnd => false
  | .next _ => false
  | .refused _ => false

theorem eq_next {r : Result} {t : State} (h : nextOf r = some t) : r = .next t := by
  cases r <;> simp_all [nextOf]

/-- The state after an operation, or the state itself where there is no step. -/
def after (i : Instr) (s : State) : State := (nextOf (perform i s)).getD s

/-- A field of the next state. -/
def afterExec {α : Type} (i : Instr) (s : State) (f : State → α) : Option α := (nextOf (exec i s)).map f

/-- The reference state S0 of 95_test_vectors.md. -/
def s0 : State := State.reset

/-- S0 in BatteryVoltage, as V40-5 and V42-6 start. -/
def battery : State := { s0 with mode := 2, pscEn := true, extEn := false, smpEn := false, adcEn := true }

/-- S0 with the parameter `P_SAMPLE_CLEARS_PENDING = true`. -/
def clearing : State := { s0 with cfg := { Config.default with sampleClearsPending := true } }

/-- S0 with the parameter `P_GUARD_LAG = true`. -/
def lagging : State := { s0 with cfg := { Config.default with guardLag := true } }

/-! ## Well-formedness (R61) -/

theorem test_wellFormed_refuses_1024 : Instr.wellFormed 10 (.evAdcResult 1024) = false := by decide
theorem test_wellFormed_admits_1023 : Instr.wellFormed 10 (.evAdcResult 1023) = true := by decide

/-! ## Every operation's word, written out from R50, R52, R56, R57: K, Z, A or E, then the low half -/

theorem test_word_rdStatus : decode 10 0b00_000000_00000000_0000000000000000 = .ok .rdStatus := by decide
theorem test_word_rdMode : decode 10 0b00_000000_00000001_0000000000000000 = .ok .rdMode := by decide
theorem test_word_rdLfc0 : decode 10 0b00_000000_00000100_0000000000000000 = .ok .rdLfc0 := by decide
theorem test_word_rdLfc1 : decode 10 0b00_000000_00000101_0000000000000000 = .ok .rdLfc1 := by decide
theorem test_word_rdLfc2 : decode 10 0b00_000000_00000110_0000000000000000 = .ok .rdLfc2 := by decide
theorem test_word_rdLfc3 : decode 10 0b00_000000_00000111_0000000000000000 = .ok .rdLfc3 := by decide
theorem test_word_rdBatlo : decode 10 0b00_000000_00001000_0000000000000000 = .ok .rdBatlo := by decide
theorem test_word_rdBathi : decode 10 0b00_000000_00001001_0000000000000000 = .ok .rdBathi := by decide
theorem test_word_cmdGuardSet : decode 10 0b01_000000_00000010_0000000000000001 = .ok .cmdGuardSet := by decide
theorem test_word_cmdGuardClr : decode 10 0b01_000000_00000010_0000000000000010 = .ok .cmdGuardClr := by decide
theorem test_word_cmdOvfClr : decode 10 0b01_000000_00000010_0000000000000011 = .ok .cmdOvfClr := by decide
theorem test_word_cmdModeAdv : decode 10 0b01_000000_00000010_0000000000000100 = .ok .cmdModeAdv := by decide
theorem test_word_cmdLedOn : decode 10 0b01_000000_00000010_0000000000000101 = .ok .cmdLedOn := by decide
theorem test_word_cmdLedOff : decode 10 0b01_000000_00000010_0000000000000110 = .ok .cmdLedOff := by decide
theorem test_word_evCountEdge : decode 10 0b10_000000_00000001_0000000000000000 = .ok .evCountEdge := by decide
theorem test_word_evCarryService : decode 10 0b10_000000_00000010_0000000000000000 = .ok .evCarryService := by decide
theorem test_word_evWindowTick : decode 10 0b10_000000_00000011_0000000000000000 = .ok .evWindowTick := by decide
theorem test_word_evBtnDown : decode 10 0b10_000000_00000100_0000000000000000 = .ok .evBtnDown := by decide
theorem test_word_evBtnUp : decode 10 0b10_000000_00000101_0000000000000000 = .ok .evBtnUp := by decide
theorem test_word_evAdcResult : decode 10 0b10_000000_00000110_0000001011001101 = .ok (.evAdcResult 717) := by decide
theorem test_word_evPor : decode 10 0b10_000000_00000111_0000000000000000 = .ok .evPor := by decide

/-! ## Refusals (section 2.5 of the vectors) -/

theorem test_V30_1_kind : decode 10 0xC0000000 = .error .reservedKind := by decide
theorem test_V30_2_3_reserved_Z :
    decode 10 0x01000000 = .error .reservedField ∧ decode 10 0x3F000000 = .error .reservedField := by decide
theorem test_V30_4_10_15_field :
    decode 10 0x00000001 = .error .reservedField ∧ decode 10 0x40020101 = .error .reservedField
      ∧ decode 10 0x80010001 = .error .reservedField := by decide
theorem test_V30_5_6_9_address :
    decode 10 0x00030000 = .error .reservedAddress ∧ decode 10 0x000A0000 = .error .reservedAddress
      ∧ decode 10 0x40030001 = .error .reservedAddress := by decide
theorem test_V30_7_8_direction :
    decode 10 0x00020000 = .error .wrongDirection ∧ decode 10 0x40000001 = .error .wrongDirection := by decide
theorem test_V30_11_12_command :
    decode 10 0x40020000 = .error .reservedCommand ∧ decode 10 0x40020007 = .error .reservedCommand := by decide
theorem test_V30_13_14_event :
    decode 10 0x80000000 = .error .reservedEvent ∧ decode 10 0x80080000 = .error .reservedEvent := by decide
theorem test_V30_16_17_range :
    decode 10 0x800603FF = .ok (.evAdcResult 1023) ∧ decode 10 0x80060400 = .error .argRange := by decide

/-! ## The counter (section 2.1) -/

theorem test_V40_3_wrap : afterExec .evCountEdge { s0 with hw := 0xFF } (fun t => (t.hw, t.pend, t.faults))
    = some (0, true, []) := by decide
theorem test_V40_4_lost_carry :
    afterExec .evCountEdge { s0 with hw := 0xFF, pend := true } (fun t => (t.hw, t.pend, t.faults))
      = some (0, true, [.carryLost]) := by decide
theorem test_V40_14_ripple :
    afterExec .evCarryService { s0 with pend := true, c3 := 0x34, c2 := 0x12, c1 := 0xFF, hw := 7 }
      (fun t => (t.c3, t.c2, t.c1, t.hw, t.pend)) = some (0x34, 0x13, 0, 7, false) := by decide
theorem test_V40_10_overflow :
    afterExec .evCarryService { s0 with pend := true, c3 := 0xFF, c2 := 0xFF, c1 := 0xFF }
      (fun t => (t.c3, t.c2, t.c1, t.ovf)) = some (0, 0, 0, true) := by decide
theorem test_V40_12_13_no_step :
    isNoStep (exec .evCarryService s0) = true
      ∧ isNoStep (exec .evCarryService { battery with pend := true }) = true := by decide

/-! ## The sampler and the guard (section 2.2) -/

theorem test_V41_3_capture :
    afterExec .evWindowTick { s0 with c3 := 0x12, c2 := 0x34, c1 := 0x56, hw := 0x78 }
      (fun t => (t.lfc, t.c3, t.c2, t.c1, t.hw)) = some (0x12345678, 0, 0, 0, 0) := by decide
theorem test_V41_2_guarded :
    afterExec .evWindowTick { s0 with guard := true, lfc := 5, hw := 9 } (fun t => (t.lfc, t.hw)) = some (5, 0) := by
  decide
theorem test_V41_4_pending :
    afterExec .evWindowTick { s0 with pend := true } State.pend = some true
      ∧ afterExec .evWindowTick { clearing with pend := true } State.pend = some false := by decide
theorem test_V41_6_no_step : isNoStep (exec .evWindowTick battery) = true := by decide
theorem test_V41_8_guard_set : afterExec .cmdGuardSet s0 State.statusByte = some 0x36 := by decide
theorem test_V41_10_guard_clr : afterExec .cmdGuardClr { s0 with guard := true } State.guard = some false := by decide
theorem test_V41_12_reads :
    afterExec .rdLfc0 { s0 with lfc := 0x12345678 } State.resp = some (.data 0x78)
      ∧ afterExec .rdLfc1 { s0 with lfc := 0x12345678 } State.resp = some (.data 0x56)
      ∧ afterExec .rdLfc2 { s0 with lfc := 0x12345678 } State.resp = some (.data 0x34)
      ∧ afterExec .rdLfc3 { s0 with lfc := 0x12345678 } State.resp = some (.data 0x12) := by decide

/-! ## The mode FSM and the battery sample (section 2.3) -/

theorem test_V42_1_to_extra :
    afterExec .cmdModeAdv { s0 with hw := 0x22, c1 := 1, pend := true, lfc := 7 }
      (fun t => (t.mode, t.statusByte, t.hw, t.c1, t.pend, t.lfc)) = some (1, 0x3C, 0, 0, false, 7) := by decide
theorem test_V42_2_to_battery :
    afterExec .cmdModeAdv { s0 with mode := 1, pscEn := true, hw := 0x55 } (fun t => (t.mode, t.statusByte, t.hw))
      = some (2, 0x4C, 0x55) := by decide
theorem test_V42_3_to_base :
    afterExec .cmdModeAdv { battery with hw := 0x55, pend := true } (fun t => (t.mode, t.statusByte, t.hw, t.pend))
      = some (0, 0x34, 0, false) := by decide
theorem test_V42_6_sample :
    afterExec (.evAdcResult 717) battery State.bat = some 717
      ∧ afterExec .rdBatlo { battery with bat := 717 } State.resp = some (.data 0xCD)
      ∧ afterExec .rdBathi { battery with bat := 717 } State.resp = some (.data 0x02) := by decide
theorem test_V42_9_no_step : isNoStep (exec (.evAdcResult 5) s0) = true := by decide

/-! ## Status, overflow clear, indicator, button (section 2.4) -/

theorem test_V43_1_3_status :
    afterExec .rdStatus s0 State.resp = some (.data 0x34)
      ∧ afterExec .rdStatus { s0 with ovf := true, guard := true } (fun t => (t.resp, t.ovf))
        = some (.data 0x37, true) := by decide
theorem test_V43_6_ovf_clr :
    afterExec .cmdOvfClr { s0 with ovf := true, guard := true } (fun t => (t.ovf, t.guard)) = some (false, true) := by
  decide
theorem test_V43_7_led_on : afterExec .cmdLedOn s0 State.statusByte = some 0xB4 := by decide
theorem test_V43_8_led_off : afterExec .cmdLedOff { s0 with led := true } State.led = some false := by decide
theorem test_V43_9_10_button_down :
    afterExec .evBtnDown s0 (fun t => (t.statusByte, t.mode)) = some (0x30, 0)
      ∧ isNoStep (exec .evBtnDown { s0 with btnN := false }) = true := by decide
theorem test_V43_11_button_up : afterExec .evBtnUp { s0 with btnN := false } State.btnN = some true := by decide
theorem test_V43_12_mode : afterExec .rdMode battery State.resp = some (.data 2) := by decide

/-! ## Reset (section 2.6) -/

theorem test_V70_1_por :
    nextOf (exec .evPor { battery with
      ovf := true, guard := true, lfc := 0x12345678, led := true, bat := 717, pend := true, hw := 0x80
      faults := [.carryLost] }) = some { s0 with faults := [.carryLost] } := by decide
theorem test_V70_3_por_extra :
    afterExec .evPor { battery with cfg := { Config.default with initialMode := .extraFrequency } }
      (fun t => (t.mode, t.statusByte)) = some (1, 0x3C) := by decide

/-! ## A step, and the words the host places -/

theorem test_step_runs_the_placed_word :
    (nextOf (step (State.reset.withFetchWord 32 0x80010000))).map (fun t => (t.hw, t.schedule)) = some (1, []) := by
  decide
/-- V42-8: ADC_RESULT 1024 is refused with RF7; the mark is set and `bat` kept. -/
theorem test_V42_8_refused :
    (nextOf (step (battery.withFetchWord 32 0x80060400))).map (fun t => (t.refused, t.resp, t.bat))
      = some (true, .refusal .argRange, 0) := by decide
theorem test_decodeTableWord : decodeTableWord 32 0x800602CD = some (.evAdcResult 717)
    ∧ decodeTableWord 32 0x00000000 = some .rdStatus ∧ decodeTableWord 32 0xC0000000 = none := by decide

/-! ## Source text (R62, R63) -/

theorem test_asm_adc : parseLine 10 "ev ADC_RESULT 0x2CD ; a sample".toList
    = some (some (.operation (.evAdcResult 717))) := by decide
theorem test_asm_word : parseLine 10 ".word 0x40020004".toList = some (some (.word 0x40020004)) := by decide
theorem test_asm_range : parseLine 10 "ev ADC_RESULT 1024".toList = none := by decide
theorem test_asm_pseudo : assemble 10 ["edges 2".toList, "; end".toList, "read_bat".toList]
    = some [0x80010000, 0x80010000, 0x40020001, 0x00080000, 0x00090000, 0x40020002] := by decide

/-! ## Witnesses: for each obligation with hypotheses, states and operands that meet them, at boundary values -/

/-- The run that performs the given operations from a state, where each is enabled. -/
def runFrom (s : State) : List Instr → List Transition
  | [] => []
  | i :: is => ⟨s, i, after i s⟩ :: runFrom (after i s) is

/-- The state that run ends in. -/
def endFrom (s : State) : List Instr → State
  | [] => s
  | i :: is => endFrom (after i s) is

/-- Whether each operation is enabled where it stands. -/
def allStep (s : State) : List Instr → Bool
  | [] => true
  | i :: is => (nextOf (perform i s)).isSome && allStep (after i s) is

theorem run_of_allStep {s : State} {is : List Instr} (h : allStep s is = true) :
    Run s (runFrom s is) (endFrom s is) := by
  induction is generalizing s with
  | nil => exact .nil s
  | cons i is ih =>
    simp only [allStep, Bool.and_eq_true, Option.isSome_iff_exists] at h
    obtain ⟨⟨t, ht⟩, rest⟩ := h
    have e : after i s = t := by simp [after, ht]
    exact .cons s _ _ i _ (by rw [e]; exact eq_next ht) (ih rest)

theorem witness_DecodeOfEncodeIsTheOperation :
    Instr.wellFormed 10 (.evAdcResult 1023) = true ∧ Instr.wellFormed 16 (.evAdcResult 0xFFFF) = true
      ∧ Instr.wellFormed 1 (.evAdcResult 1) = true ∧ Instr.wellFormed 10 .evPor = true := by decide

/-- One word for each clause, at the ends of its range. -/
theorem witness_RefusedWordsReportTheFirstReason :
    fieldK 0xC0000000 = 3 ∧ (fieldK 0x01000000 ≠ 3 ∧ fieldZ 0x01000000 ≠ 0)
    ∧ (fieldK 0x00000001 = 0 ∧ fieldZ 0x00000001 = 0 ∧ fieldArg 0x00000001 ≠ 0)
    ∧ (fieldK 0x000A0000 = 0 ∧ fieldZ 0x000A0000 = 0 ∧ fieldArg 0x000A0000 = 0 ∧ 10 ≤ (fieldA 0x000A0000).toNat)
    ∧ (fieldK 0x00030000 = 0 ∧ fieldZ 0x00030000 = 0 ∧ fieldArg 0x00030000 = 0 ∧ fieldA 0x00030000 = 3)
    ∧ (fieldK 0x00020000 = 0 ∧ fieldZ 0x00020000 = 0 ∧ fieldArg 0x00020000 = 0 ∧ fieldA 0x00020000 = 2)
    ∧ (fieldK 0x40020101 = 1 ∧ fieldZ 0x40020101 = 0 ∧ fieldH 0x40020101 ≠ 0)
    ∧ (fieldK 0x40FF0001 = 1 ∧ fieldZ 0x40FF0001 = 0 ∧ fieldH 0x40FF0001 = 0 ∧ 10 ≤ (fieldA 0x40FF0001).toNat)
    ∧ (fieldK 0x40090001 = 1 ∧ fieldZ 0x40090001 = 0 ∧ fieldH 0x40090001 = 0
        ∧ ¬ (fieldA 0x40090001 = 3 ∨ 10 ≤ (fieldA 0x40090001).toNat) ∧ fieldA 0x40090001 ≠ 2)
    ∧ (fieldK 0x40020007 = 1 ∧ fieldZ 0x40020007 = 0 ∧ fieldH 0x40020007 = 0 ∧ fieldA 0x40020007 = 2
        ∧ 7 ≤ (fieldD 0x40020007).toNat)
    ∧ (fieldK 0x40020000 = 1 ∧ fieldZ 0x40020000 = 0 ∧ fieldH 0x40020000 = 0 ∧ fieldA 0x40020000 = 2
        ∧ fieldD 0x40020000 = 0)
    ∧ (fieldK 0x80080000 = 2 ∧ fieldZ 0x80080000 = 0 ∧ 8 ≤ (fieldA 0x80080000).toNat)
    ∧ (fieldK 0x80000000 = 2 ∧ fieldZ 0x80000000 = 0 ∧ fieldA 0x80000000 = 0)
    ∧ (fieldK 0x80070001 = 2 ∧ fieldZ 0x80070001 = 0 ∧ fieldA 0x80070001 ≠ 0 ∧ (fieldA 0x80070001).toNat < 8
        ∧ fieldA 0x80070001 ≠ 6 ∧ fieldArg 0x80070001 ≠ 0)
    ∧ (fieldK 0x80060400 = 2 ∧ fieldZ 0x80060400 = 0 ∧ fieldA 0x80060400 = 6
        ∧ 2 ^ 10 ≤ (fieldArg 0x80060400).toNat) := by decide

theorem witness_StepPerformsTheDecodedOperation :
    ∃ s : State, s.schedule = [0x80030000, 0] ∧ decode s.cfg.adcBits 0x80030000 = .ok .evWindowTick :=
  ⟨{ s0 with schedule := [0x80030000, 0] }, by decide⟩

theorem witness_StepOfARefusedWordOnlySetsTheMark :
    ∃ s : State, s.schedule = [0x00020000] ∧ decode s.cfg.adcBits 0x00020000 = .error .wrongDirection :=
  ⟨{ s0 with schedule := [0x00020000] }, by decide⟩

theorem witness_HostReadOfAnyAddressFollowsTheRegisterMap :
    (∃ s : State, s.schedule = [(0b00#2 ++ 0#6 ++ 0x09#8 ++ 0#16 : BitVec 32)] ∧ s.hostRead 0x09 = .ok 2)
      ∧ ∃ s : State, s.schedule = [(0b00#2 ++ 0#6 ++ 0x0A#8 ++ 0#16 : BitVec 32)]
        ∧ s.hostRead 0x0A = .error .reservedAddress :=
  ⟨⟨{ s0 with bat := 717, schedule := [0x00090000] }, by decide⟩, ⟨{ s0 with schedule := [0x000A0000] }, by decide⟩⟩

theorem witness_HostWriteOfAnyByteFollowsTheCommandTable :
    (∃ s : State, s.schedule = [(0b01#2 ++ 0#6 ++ 0x02#8 ++ 0#8 ++ 0x06#8 : BitVec 32)]
        ∧ s.hostWrite 0x02 0x06 = .ok { s with led := false })
      ∧ ∃ s : State, s.schedule = [(0b01#2 ++ 0#6 ++ 0x02#8 ++ 0#8 ++ 0x07#8 : BitVec 32)]
        ∧ s.hostWrite 0x02 0x07 = .error .reservedCommand :=
  ⟨⟨{ s0 with led := true, schedule := [0x40020006] }, by decide⟩, ⟨{ s0 with schedule := [0x40020007] }, by decide⟩⟩

theorem witness_CoreRunsAScheduledRun :
    Run s0 (runFrom s0 [.evCountEdge, .rdStatus]) (endFrom s0 [.evCountEdge, .rdStatus])
      ∧ ∀ tr ∈ runFrom s0 [.evCountEdge, .rdStatus], tr.op.wellFormed s0.cfg.adcBits = true :=
  ⟨run_of_allStep (by decide), by decide⟩

theorem witness_CountEdgeIncrementsAndLatchesTheCarry :
    battery.extEn = false ∧ (s0.extEn = true ∧ s0.hw ≠ 255)
    ∧ (∃ s : State, s.extEn = true ∧ s.hw = 255 ∧ s.pend = false)
    ∧ (∃ s : State, s.extEn = true ∧ s.hw = 255 ∧ s.pend = true ∧ FaultCode.carryLost ∉ s.faults)
    ∧ ∃ s : State, s.extEn = true ∧ s.hw = 255 ∧ s.pend = true ∧ FaultCode.carryLost ∈ s.faults :=
  ⟨by decide, by decide, ⟨{ s0 with hw := 255 }, by decide⟩, ⟨{ s0 with hw := 255, pend := true }, by decide⟩,
    ⟨{ s0 with hw := 255, pend := true, faults := [.carryLost] }, by decide⟩⟩

theorem witness_CarryServiceIncrementsTheCarryBytes :
    (∃ s : State, s.pend = true ∧ s.extEn = true ∧ (s.c3 ++ s.c2 ++ s.c1 : BitVec 24) = 0xFFFFFF)
      ∧ (s0.pend = false ∨ s0.extEn = false) ∧ ∃ s : State, s.pend = true ∧ s.extEn = false :=
  ⟨⟨{ s0 with pend := true, c1 := 255, c2 := 255, c3 := 255 }, by decide⟩, by decide,
    ⟨{ battery with pend := true }, by decide⟩⟩

theorem witness_RippleCarryCountsServices :
    ∃ (s t : State) (run : List Transition), Run s run t ∧ (s.c1 = 0 ∧ s.c2 = 0 ∧ s.c3 = 0)
      ∧ (∀ tr ∈ run, tr.startsWindow = false) ∧ ∃ tr ∈ run, tr.op = .evCarryService :=
  ⟨_, _, _, run_of_allStep (s := { s0 with pend := true }) (is := [.evCountEdge, .evCarryService]) (by decide),
    by decide, by decide, by decide⟩

theorem witness_WindowCountEqualsTheEdgesCounted :
    ∃ (s1 s t : State) (run : List Transition), perform .evWindowTick s1 = .next s
      ∧ (Transition.mk s1 .evWindowTick s).startsWindow = true ∧ Run s run t
      ∧ (∀ tr ∈ run, tr.startsWindow = false) ∧ s.pend = true :=
  ⟨{ s0 with pend := true }, _, _, _, eq_next (t := after .evWindowTick { s0 with pend := true }) (by decide),
    by decide, run_of_allStep (is := [.evCountEdge, .evCarryService]) (by decide), by decide, by decide⟩

theorem witness_CountWrapsAndTheFlagStays :
    (∃ s : State, s.pend = true ∧ s.extEn = true ∧ s.c1 = 255 ∧ s.c2 = 255 ∧ s.c3 = 255)
      ∧ ∃ (s t : State) (run : List Transition), Run s run t ∧ s.ovf = true
        ∧ ∀ tr ∈ run, tr.op ≠ .cmdOvfClr ∧ tr.op ≠ .evPor :=
  ⟨⟨{ s0 with pend := true, c1 := 255, c2 := 255, c3 := 255 }, by decide⟩,
    ⟨_, _, _, run_of_allStep (s := { s0 with ovf := true }) (is := [.evWindowTick, .cmdModeAdv]) (by decide),
      by decide, by decide⟩⟩

theorem witness_CarryServiceMustRunBeforeTheNextWrap :
    (∃ (s t : State) (run : List Transition), Run s run t
        ∧ s.hw.toNat + run.countP (fun tr => tr.countsEdge) = 255)
      ∧ ∃ (s t : State) (run : List Transition), Run s run t ∧ s.pend = true
        ∧ s.hw.toNat + run.countP (fun tr => tr.countsEdge) = 256
        ∧ ∀ tr ∈ run, tr.op ≠ .evCarryService ∧ tr.startsWindow = false :=
  ⟨⟨_, _, _, run_of_allStep (s := { s0 with hw := 254 }) (is := [.evCountEdge]) (by decide), by decide⟩,
    ⟨_, _, _, run_of_allStep (s := { s0 with hw := 255, pend := true }) (is := [.evCountEdge]) (by decide),
      by decide, by decide, by decide⟩⟩

theorem witness_WindowTickCapturesAndClears :
    (s0.smpEn = true ∧ s0.guard = false)
    ∧ (∃ s : State, s.smpEn = true ∧ s.guard = true ∧ s.cfg.guardLag = false)
    ∧ (∃ s : State, s.smpEn = true ∧ s.guard = true ∧ s.cfg.guardLag = true) ∧ battery.smpEn = false :=
  ⟨by decide, ⟨{ s0 with guard := true }, by decide⟩, ⟨{ lagging with guard := true }, by decide⟩, by decide⟩

theorem witness_GuardedReadsSeeOneValue :
    ∃ (s t : State) (run : List Transition), s0.cfg.guardLag = false ∧ perform .cmdGuardSet s0 = .next s
      ∧ Run s run t ∧ (∀ tr ∈ run, tr.op ≠ .cmdGuardClr ∧ tr.op ≠ .evPor)
      ∧ run.map (fun tr => tr.op) = [.rdLfc0, .evWindowTick, .rdLfc1, .rdLfc2, .rdLfc3] :=
  ⟨_, _, _, by decide, eq_next (t := after .cmdGuardSet s0) (by decide),
    run_of_allStep (is := [.rdLfc0, .evWindowTick, .rdLfc1, .rdLfc2, .rdLfc3]) (by decide), by decide, by decide⟩

theorem witness_UnguardedReadAcrossATickIsTorn : s0.smpEn = true ∧ s0.guard = false := by decide

theorem witness_LastFullCountIsStaleUntilATick :
    ∃ (t : State) (run : List Transition), Run s0 run t ∧ (∀ tr ∈ run, tr.op ≠ .evWindowTick ∧ tr.op ≠ .evPor)
      ∧ ∃ tr ∈ run, tr.op = .cmdModeAdv :=
  ⟨_, _, run_of_allStep (is := [.evCountEdge, .cmdModeAdv]) (by decide), by decide, by decide⟩

theorem witness_ServicesRunInEitherOrder :
    (∃ s : State, s.pend = true ∧ s.extEn = true ∧ s.smpEn = true ∧ s.guard = false ∧ s.cfg.sampleClearsPending = false)
      ∧ ∃ s : State, s.pend = true ∧ s.extEn = true ∧ s.smpEn = true ∧ s.guard = false
        ∧ s.cfg.sampleClearsPending = true :=
  ⟨⟨{ s0 with pend := true }, by decide⟩, ⟨{ clearing with pend := true }, by decide⟩⟩

theorem witness_CarryStraddlingAWindowMovesOrLoses256 :
    (∃ s : State, s.hw = 255 ∧ s.pend = false ∧ s.extEn = true ∧ s.smpEn = true ∧ s.guard = false
        ∧ s.cfg.sampleClearsPending = false)
      ∧ ∃ s : State, s.hw = 255 ∧ s.pend = false ∧ s.extEn = true ∧ s.smpEn = true ∧ s.guard = false
        ∧ s.cfg.sampleClearsPending = true :=
  ⟨⟨{ s0 with hw := 255 }, by decide⟩, ⟨{ clearing with hw := 255 }, by decide⟩⟩

theorem witness_ModeAdvanceRunsTheEntryAction :
    s0.mode = 0 ∧ (∃ s : State, s.mode = 1 ∧ s.pscEn = true) ∧ battery.mode = 2 :=
  ⟨by decide, ⟨{ s0 with mode := 1, pscEn := true }, by decide⟩, by decide⟩

theorem witness_ModeAdvanceFromTheUnreachableMode : ∃ s : State, s.mode = 3 := ⟨{ s0 with mode := 3 }, rfl⟩

/-- A state that meets the invariant, in BatteryVoltage. -/
theorem battery_inv : Inv battery := by
  constructor <;> decide

theorem witness_ThreeModeAdvancesReturnToTheMode :
    ∃ (s t : State) (run : List Transition), Inv s ∧ Run s run t ∧ timesOf .cmdModeAdv run = 3
      ∧ (∀ tr ∈ run, tr.op ≠ .evPor) ∧ s.mode ≠ 2 :=
  ⟨after .cmdModeAdv battery, _, _, by constructor <;> decide,
    run_of_allStep (is := [.cmdModeAdv, .cmdModeAdv, .evCountEdge, .cmdModeAdv]) (by decide), by decide, by decide,
    by decide⟩

theorem witness_AdcResultStoresTheSample :
    battery.adcEn = true ∧ (1023#16).toNat < 2 ^ battery.cfg.adcBits
      ∧ ¬ (1024#16).toNat < 2 ^ battery.cfg.adcBits ∧ s0.adcEn = false := by decide

theorem witness_BatteryReadsReturnTheSample :
    Inv battery ∧ Inv (State.start { Config.default with adcBits := 8 } true) :=
  ⟨battery_inv, by constructor <;> decide⟩

theorem witness_GuardedBatteryReadCanBeTorn :
    ∃ s : State, s.guard = true ∧ s.adcEn = true ∧ (1023#16).toNat < 2 ^ s.cfg.adcBits :=
  ⟨{ battery with guard := true }, by decide⟩

theorem witness_ModeReadReturnsTheModeNumber : Inv battery ∧ battery.mode = 2 := ⟨battery_inv, by decide⟩

theorem witness_ButtonEventsAlternateTheLevel : s0.btnN = true ∧ ∃ s : State, s.btnN = false :=
  ⟨by decide, ⟨{ s0 with btnN := false }, rfl⟩⟩

theorem witness_ClearedOverflowReadsZeroUntilTheNextWrap :
    ∃ (s1 s t : State) (run : List Transition), perform .cmdOvfClr s1 = .next s ∧ Run s run t
      ∧ (∀ tr ∈ run, tr.wrapsCount = false) ∧ s1.ovf = true ∧ ∃ tr ∈ run, tr.op = .rdStatus :=
  ⟨{ s0 with ovf := true, pend := true, c1 := 255, c2 := 255, c3 := 254 }, _, _, _,
    eq_next (t := after .cmdOvfClr { s0 with ovf := true, pend := true, c1 := 255, c2 := 255, c3 := 254 }) (by decide),
    run_of_allStep (is := [.evCarryService, .rdStatus]) (by decide), by decide, by decide, by decide⟩

theorem witness_OverflowBetweenReadAndClearIsLost :
    ∃ s : State, s.ovf = false ∧ s.pend = true ∧ s.extEn = true ∧ s.c1 = 255 ∧ s.c2 = 255 ∧ s.c3 = 255 :=
  ⟨{ s0 with pend := true, c1 := 255, c2 := 255, c3 := 255 }, by decide⟩

theorem witness_PowerOnResetGivesTheInitialMode :
    battery.cfg.initialMode = .baseFrequency ∧ ∃ s : State, s.cfg.initialMode = .extraFrequency :=
  ⟨by decide, ⟨State.start { Config.default with initialMode := .extraFrequency } false, rfl⟩⟩

theorem witness_OperationsStepExactlyWhenEnabled :
    enabled .evWindowTick s0 = true ∧ enabled .evCarryService s0 = false ∧ enabled (.evAdcResult 0) battery = true
      ∧ enabled .evBtnUp s0 = false := by decide

theorem witness_HostAccessesCompleteAndAreConfined :
    Instr.agent .cmdModeAdv = .host ∧ Instr.agent .rdBathi = .host ∧ Instr.rdBathi ≠ .cmdModeAdv := by decide

theorem witness_HostReadsHaveNoSideEffect : Instr.kind .rdStatus = .hostRead := by decide

theorem witness_CommandsButModeAdvAreIdempotent :
    (Instr.kind .cmdOvfClr = .hostWrite ∧ Instr.cmdOvfClr ≠ .cmdModeAdv
        ∧ exec .cmdOvfClr s0 = .next (after .cmdOvfClr s0))
      ∧ s0.mode ≠ 3 ∧ exec .cmdModeAdv s0 = .next (after .cmdModeAdv s0)
      ∧ exec .cmdModeAdv (after .cmdModeAdv s0) = .next (after .cmdModeAdv (after .cmdModeAdv s0)) :=
  ⟨⟨by decide, by decide, eq_next (by decide)⟩, by decide, eq_next (by decide), eq_next (by decide)⟩

/-- Each written element does change in some transition. -/
theorem witness_CountIsWrittenOnlyByItsWriters :
    afterExec .evCountEdge s0 State.hw = some 1
    ∧ afterExec .evCarryService { s0 with pend := true, c1 := 255, c2 := 255 } (fun t => (t.c1, t.c2, t.c3, t.pend))
      = some (0, 0, 1, false)
    ∧ afterExec .evCountEdge { s0 with hw := 255 } State.pend = some true
    ∧ afterExec .evWindowTick { clearing with pend := true } State.pend = some false := by decide

theorem witness_FlagsAndLfcAreWrittenOnlyByTheirWriters :
    afterExec .evCarryService { s0 with pend := true, c1 := 255, c2 := 255, c3 := 255 } State.ovf = some true
    ∧ afterExec .cmdOvfClr { s0 with ovf := true } State.ovf = some false
    ∧ afterExec .cmdGuardSet s0 State.guard = some true
    ∧ afterExec .cmdGuardClr { s0 with guard := true } State.guard = some false
    ∧ afterExec .evWindowTick { s0 with hw := 1 } State.lfc = some 1 := by decide

theorem witness_ModeOutputsAndInputsAreWrittenOnlyByTheirWriters :
    afterExec .cmdModeAdv s0 (fun t => (t.mode, t.pscEn)) = some (1, true)
    ∧ afterExec .cmdModeAdv battery (fun t => (t.extEn, t.smpEn, t.adcEn)) = some (true, true, false)
    ∧ afterExec .cmdLedOn s0 State.led = some true ∧ afterExec .evBtnDown s0 State.btnN = some false
    ∧ afterExec (.evAdcResult 1) battery State.bat = some 1 := by decide

theorem witness_FaultRecordGrowsExactlyOnALostCarry :
    exec .evCountEdge { s0 with hw := 255, pend := true } = .next { s0 with hw := 0, pend := true, faults := [.carryLost] } :=
  eq_next (by decide)

theorem witness_BookkeepingIsSticky :
    ∃ s t : State, step s = .next t ∧ FaultCode.carryLost ∈ s.faults ∧ s.refused = true :=
  ⟨{ s0 with faults := [.carryLost], refused := true, schedule := [0x80070000] },
    { s0 with faults := [.carryLost], refused := true }, eq_next (by decide), by decide, by decide⟩

theorem witness_HostReadsDoNotShowTheRunningCount :
    Instr.kind .rdStatus = .hostRead ∧ exec .rdStatus s0 = .next { s0 with resp := .data 0x34 }
      ∧ exec .rdStatus { s0 with hw := 255, c1 := 1, c2 := 2, c3 := 3, pend := true }
        = .next { s0 with hw := 255, c1 := 1, c2 := 2, c3 := 3, pend := true, resp := .data 0x34 } :=
  ⟨by decide, eq_next (by decide), eq_next (by decide)⟩

theorem witness_StartStatesMeetTheInvariants :
    Config.default.valid = true ∧ { Config.default with adcBits := 16 }.valid = true
      ∧ { Config.default with adcBits := 1 }.valid = true ∧ { Config.default with adcBits := 17 }.valid = false := by
  decide

theorem witness_EveryStepKeepsTheInvariants :
    ∃ s t : State, Inv s ∧ step s = .next t ∧ s.mode ≠ t.mode :=
  ⟨{ battery with schedule := [0x40020004] }, s0, by constructor <;> decide, eq_next (by decide), by decide⟩

/-- A fair infinite run with the guard set: one carry service, then ticks for ever. -/
def fairState : Nat → State
  | 0 => { s0 with guard := true, pend := true }
  | 1 => { s0 with guard := true, c1 := 1 }
  | _ + 2 => { s0 with guard := true }

/-- Its operations. -/
def fairOp : Nat → Instr
  | 0 => .evCarryService
  | _ + 1 => .evWindowTick

theorem witness_FairRunsServiceCarriesAndTick :
    InfiniteRun fairState fairOp ∧ FairRun fairState fairOp
      ∧ (∀ m, 0 ≤ m → fairOp m ≠ .cmdModeAdv ∧ fairOp m ≠ .evPor)
      ∧ (fairState 0).pend = true ∧ (fairState 0).extEn = true ∧ (fairState 0).cfg.sampleClearsPending = false
      ∧ (fairState 0).smpEn = true := by
  refine ⟨?_, ⟨?_, ?_⟩, ?_, by decide⟩
  · intro n
    match n with
    | 0 => exact eq_next (by decide)
    | 1 => exact eq_next (by decide)
    | _ + 2 => exact (eq_next (by decide) :
        perform .evWindowTick { s0 with guard := true } = .next { s0 with guard := true })
  · intro n h
    refine ⟨0, ?_, rfl⟩
    have := (h (n + 1) (Nat.le_succ n)).1
    match n with
    | 0 => exact Nat.le_refl 0
    | _ + 1 => cases this
  · intro _ k
    exact ⟨k + 1, Nat.le_succ k, rfl⟩
  · intro m _
    match m with
    | 0 => decide
    | _ + 1 => exact ⟨by simp [fairOp], by simp [fairOp]⟩

theorem witness_EdgesPseudoCountsItsEdges :
    s0.extEn = true ∧ s0.hw.toNat + 255 ≤ 255 ∧ ∃ s : State, s.extEn = true ∧ s.hw.toNat + 0 ≤ 255 ∧ s.hw = 255 :=
  ⟨by decide, by decide, ⟨{ s0 with hw := 255 }, by decide⟩⟩

theorem witness_PressPseudoAdvancesTheMode : s0.btnN = true ∧ battery.btnN = true := by decide

end Sys2Proof.Tests
end

/-! # Proofs: a step performs the decoded word, and the core performs a scheduled run (00_scope.md R5) -/

namespace Sys2Proof

/-! ## Decoding the words the encoder builds (30_encoding.md R50, R59) -/

@[simp] theorem fieldH_operationWord (k : BitVec 2) (a : Byte) (arg : BitVec 16) :
    fieldH (operationWord k a arg) = arg.extractLsb' 8 8 := by
  conv_rhs => rw [← fieldArg_operationWord k a arg, fieldArg_eq_append]
  exact BitVec.extractLsb'_append_eq_left.symm

@[simp] theorem fieldD_operationWord (k : BitVec 2) (a : Byte) (arg : BitVec 16) :
    fieldD (operationWord k a arg) = arg.extractLsb' 0 8 := by
  conv_rhs => rw [← fieldArg_operationWord k a arg, fieldArg_eq_append]
  exact BitVec.extractLsb'_append_eq_right.symm

theorem mem_implementedAddresses_of_readOperation {a : Byte} {i : Instr} (h : readOperation a = some i) :
    a ∈ implementedAddresses := by
  revert h
  unfold readOperation
  repeat' split
  all_goals simp [implementedAddresses, *]

theorem decode_hostReadWord {a : Byte} {i : Instr} (n : Nat) (h : readOperation a = some i) :
    decode n (hostReadWord a) = .ok i := by
  have mapped := mem_implementedAddresses_of_readOperation h
  simp [decode, decodeHostRead, hostReadWord, mapped, h]

theorem decode_hostWriteWord {d : Byte} {i : Instr} (n : Nat) (h : commandOperation d = some i) :
    decode n (hostWriteWord cmdAddress d) = .ok i := by
  have high : (0#8 ++ d : BitVec 16).extractLsb' 8 8 = 0 := BitVec.extractLsb'_append_eq_left
  have low : (0#8 ++ d : BitVec 16).extractLsb' 0 8 = d := BitVec.extractLsb'_append_eq_right
  have mapped : cmdAddress ∈ implementedAddresses := by decide
  simp [decode, decodeHostWrite, hostWriteWord, high, low, mapped, h]

/-- An event word decodes to its event: only ADC_RESULT, event 6, carries an argument, and that one is bounded
(R51, R61). -/
theorem decode_blockEventWord {n : Nat} {e : Byte} {arg : BitVec 16} {i : Instr} (h : eventOperation e arg = some i)
    (noArg : e ≠ 0x06 → arg = 0) (fits : e = 0x06 → arg.toNat < 2 ^ n) :
    decode n (blockEventWord e arg) = .ok i := by
  simp only [decode, decodeBlockEvent, blockEventWord, fieldK_operationWord, fieldZ_operationWord,
    fieldA_operationWord, fieldArg_operationWord, h]
  by_cases he : e = 0x06
  · simp [he, fits he]
  · simp [noArg he]

/-- Decoding undoes encoding, with every operand R61 admits. -/
theorem decode_encode {n : Nat} {i : Instr} (h : i.wellFormed n = true) : decode n (encode i) = .ok i := by
  cases i with
  | rdStatus | rdMode | rdLfc0 | rdLfc1 | rdLfc2 | rdLfc3 | rdBatlo | rdBathi => exact decode_hostReadWord n rfl
  | cmdGuardSet | cmdGuardClr | cmdOvfClr | cmdModeAdv | cmdLedOn | cmdLedOff => exact decode_hostWriteWord n rfl
  | evCountEdge | evCarryService | evWindowTick | evBtnDown | evBtnUp | evPor =>
    exact decode_blockEventWord rfl (fun _ => rfl) (fun he => absurd he (by decide))
  | evAdcResult v => exact decode_blockEventWord rfl (fun he => absurd rfl he) (fun _ => of_decide_eq_true h)

end Sys2Proof

namespace Sys2Proof.Machine

/-! ## A step with a word scheduled -/

theorem step_of_decode {s : State} {w : Word} {rest : List Word} {i : Instr} (hs : s.schedule = w :: rest)
    (hd : decode s.cfg.adcBits w = .ok i) : step s = exec i (s.begin rest) := by
  simp [step, hs, hd]

/-- Settles O5: it is the step lemma, with `State.begin` written out. -/
theorem stepPerformsTheDecodedOperation : Obligations.StepPerformsTheDecodedOperation :=
  fun _ _ _ _ hs hd => step_of_decode hs hd

/-! ## No operation reads the schedule or writes the parameters (notes/assumptions/12.md, 4.md) -/

/-- The state with another schedule. -/
def State.withSchedule (s : State) (ws : List Word) : State := { s with schedule := ws }

theorem State.enterMode_withSchedule (s : State) (ws : List Word) :
    (s.withSchedule ws).enterMode = s.enterMode.withSchedule ws := by
  have mode : (s.withSchedule ws).mode = s.mode := rfl
  simp only [State.enterMode, mode]
  repeat' split
  all_goals rfl

theorem State.advanceMode_withSchedule (s : State) (ws : List Word) :
    (s.withSchedule ws).advanceMode = s.advanceMode.withSchedule ws :=
  State.enterMode_withSchedule { s with mode := nextMode s.mode } ws

theorem State.powerOn_withSchedule (s : State) (ws : List Word) :
    (s.withSchedule ws).powerOn = s.powerOn.withSchedule ws := by
  simp only [State.powerOn, ← State.enterMode_withSchedule]
  rfl

theorem State.wrapCounter_withSchedule (s : State) (ws : List Word) :
    (s.withSchedule ws).wrapCounter = s.wrapCounter.withSchedule ws := by
  have pend : (s.withSchedule ws).pend = s.pend := rfl
  simp only [State.wrapCounter, pend]
  split <;> rfl

@[simp] theorem State.advanceMode_cfg (s : State) : s.advanceMode.cfg = s.cfg := State.enterMode_cfg _

@[simp] theorem State.powerOn_cfg (s : State) : s.powerOn.cfg = s.cfg := State.enterMode_cfg _

@[simp] theorem State.wrapCounter_cfg (s : State) : s.wrapCounter.cfg = s.cfg := by
  unfold State.wrapCounter
  split <;> rfl

/-- An operation with a condition steps exactly where it is enabled (60_exceptions.md R129). -/
theorem ite_stuck_eq_next {c : Prop} [Decidable c] {x t : State} :
    (if c then .next x else stuck) = (.next t : Result) ↔ c ∧ x = t := by
  by_cases hc : c <;> simp [hc, stuck]

theorem stuck_ite_eq_next {c : Prop} [Decidable c] {x t : State} :
    (if c then stuck else .next x) = (.next t : Result) ↔ ¬ c ∧ x = t := by
  by_cases hc : c <;> simp [hc, stuck]

/-- Another schedule takes no part in an operation and comes out of it unchanged. -/
theorem exec_withSchedule {i : Instr} {s t : State} (h : exec i s = .next t) (ws : List Word) :
    exec i (s.withSchedule ws) = .next (t.withSchedule ws) := by
  cases i with
  | rdStatus | rdMode | rdLfc0 | rdLfc1 | rdLfc2 | rdLfc3 | rdBatlo | rdBathi => cases h; rfl
  | cmdGuardSet | cmdGuardClr | cmdOvfClr | cmdLedOn | cmdLedOff => cases h; rfl
  | cmdModeAdv => cases h; exact congrArg Host.Outcome.next (s.advanceMode_withSchedule ws)
  | evPor => cases h; exact congrArg Host.Outcome.next (s.powerOn_withSchedule ws)
  | evCountEdge =>
    cases h
    have extEn : (s.withSchedule ws).extEn = s.extEn := rfl
    have hw : (s.withSchedule ws).hw = s.hw := rfl
    simp only [exec, execCountEdge, extEn, hw, State.wrapCounter_withSchedule]
    repeat' split
    all_goals rfl
  | evCarryService | evBtnDown | evAdcResult =>
    obtain ⟨enabled, rfl⟩ := ite_stuck_eq_next.mp h
    exact ite_stuck_eq_next.mpr ⟨enabled, rfl⟩
  | evBtnUp =>
    obtain ⟨enabled, rfl⟩ := stuck_ite_eq_next.mp h
    exact stuck_ite_eq_next.mpr ⟨enabled, rfl⟩
  | evWindowTick =>
    obtain ⟨enabled, rfl⟩ := ite_stuck_eq_next.mp h
    refine ite_stuck_eq_next.mpr ⟨enabled, ?_⟩
    rw [apply_ite (State.withSchedule · ws)]
    rfl

/-- No operation writes the parameters. -/
theorem exec_cfg {i : Instr} {s t : State} (h : exec i s = .next t) : t.cfg = s.cfg := by
  cases i with
  | rdStatus | rdMode | rdLfc0 | rdLfc1 | rdLfc2 | rdLfc3 | rdBatlo | rdBathi => cases h; rfl
  | cmdGuardSet | cmdGuardClr | cmdOvfClr | cmdLedOn | cmdLedOff => cases h; rfl
  | cmdModeAdv => cases h; exact s.advanceMode_cfg
  | evPor => cases h; exact s.powerOn_cfg
  | evCountEdge =>
    cases h
    repeat' split
    · exact s.wrapCounter_cfg
    all_goals rfl
  | evCarryService | evBtnDown | evAdcResult =>
    obtain ⟨-, rfl⟩ := ite_stuck_eq_next.mp h
    rfl
  | evBtnUp =>
    obtain ⟨-, rfl⟩ := stuck_ite_eq_next.mp h
    rfl
  | evWindowTick =>
    obtain ⟨-, rfl⟩ := ite_stuck_eq_next.mp h
    split <;> rfl

/-! ## A run is what the core does with the run's words scheduled -/

/-- A transition of a run is a step of the core once the operation's word is scheduled first. -/
theorem step_of_perform {i : Instr} {s t : State} (h : perform i s = .next t)
    (wf : i.wellFormed s.cfg.adcBits = true) (ws : List Word) :
    step (s.withSchedule (encode i :: ws)) = .next (t.withSchedule ws) :=
  calc step (s.withSchedule (encode i :: ws))
      = exec i ((s.begin s.schedule).withSchedule ws) :=
        step_of_decode (s := s.withSchedule (encode i :: ws)) rfl (decode_encode wf)
    _ = .next (t.withSchedule ws) := exec_withSchedule h ws

theorem perform_cfg {i : Instr} {s t : State} (h : perform i s = .next t) : t.cfg = s.cfg :=
  exec_cfg (s := s.begin s.schedule) h

theorem core_run_succ_of_step {s t : State} (h : step s = .next t) (k : Nat) :
    Sys2Proof.core.run (k + 1) s = Sys2Proof.core.run k t := by
  have h : Sys2Proof.core.step s = .next t := h
  simp only [Host.Core.run, h]

/-- Settles O9, by induction on the run: each transition is one step of the core, which takes its word. -/
theorem coreRunsAScheduledRun : Obligations.CoreRunsAScheduledRun := by
  intro s t run rest hrun wf
  induction hrun with
  | nil s => rfl
  | cons s u t i tail first hrun ih =>
    obtain ⟨wfHead, wfTail⟩ := List.forall_mem_cons.mp wf
    rw [← perform_cfg first] at wfTail
    exact (core_run_succ_of_step (step_of_perform first wfHead _) _).trans (ih wfTail)

end Sys2Proof.Machine

/-! # Proofs: what an operation writes, and the invariants every step keeps (10_state.md R10 to R27) -/

namespace Sys2Proof.Machine

/-! ## What an operation or a step that answers a next state has done -/

/-- `Effect s i t`: from `s` the operation `i` leads to `t`, one constructor for each way an operation can come out, with the
guards under which it does. -/
inductive Effect (s : State) : Instr → State → Prop where
  | read {i : Instr} (d : Byte) (kind : i.kind = .hostRead) : Effect s i (s.answer d)
  | guardSet : Effect s .cmdGuardSet (s.setGuard true)
  | guardClr : Effect s .cmdGuardClr (s.setGuard false)
  | ovfClr : Effect s .cmdOvfClr s.clearOverflow
  | modeAdv : Effect s .cmdModeAdv s.advanceMode
  | ledOn : Effect s .cmdLedOn (s.setLed true)
  | ledOff : Effect s .cmdLedOff (s.setLed false)
  | haltedEdge (halted : s.extEn = false) : Effect s .evCountEdge s
  | plainEdge (runs : s.extEn = true) (room : s.hw ≠ 255) : Effect s .evCountEdge { s with hw := inc8 s.hw }
  | wrappingEdge (runs : s.extEn = true) (full : s.hw = 255) (clear : s.pend = false) :
      Effect s .evCountEdge { s with hw := 0, pend := true }
  | losingEdge (runs : s.extEn = true) (full : s.hw = 255) (pending : s.pend = true) :
      Effect s .evCountEdge { s.raiseFault .carryLost with hw := 0, pend := true }
  | carry (pending : s.pend = true) (runs : s.extEn = true) :
      Effect s .evCarryService (s.setPending false).rippleCarry
  | keepingTick (runs : s.smpEn = true) (keeps : s.cfg.sampleClearsPending = false) :
      Effect s .evWindowTick s.capture.zeroCount
  | clearingTick (runs : s.smpEn = true) (clears : s.cfg.sampleClearsPending = true) :
      Effect s .evWindowTick (s.capture.zeroCount.setPending false)
  | btnDown (released : s.btnN = true) : Effect s .evBtnDown (s.setButton false)
  | btnUp (pressed : s.btnN = false) : Effect s .evBtnUp (s.setButton true)
  | adcResult (v : BitVec 16) (runs : s.adcEn = true) :
      Effect s (.evAdcResult v) { s with bat := sampleBits s.cfg.adcBits v }
  | por : Effect s .evPor s.powerOn

theorem effect_of_execCountEdge {s t : State} (h : execCountEdge s = .next t) : Effect s .evCountEdge t := by
  cases h
  split
  next runs =>
    split
    next full =>
      cases hp : s.pend with
      | false => exact s.wrapCounter_of_clear hp ▸ .wrappingEdge runs full hp
      | true => exact s.wrapCounter_of_pending hp ▸ .losingEdge runs full hp
    next room => exact .plainEdge runs room
  next halted => exact .haltedEdge (Bool.eq_false_of_not_eq_true halted)

theorem effect_of_execWindowTick {s t : State} (h : execWindowTick s = .next t) : Effect s .evWindowTick t := by
  obtain ⟨runs, rfl⟩ := ite_stuck_eq_next.mp h
  split
  next clears => exact .clearingTick runs clears
  next keeps => exact .keepingTick runs (Bool.eq_false_of_not_eq_true keeps)

/-- The inversion of `exec`. -/
theorem effect_of_exec {i : Instr} {s t : State} (h : exec i s = .next t) : Effect s i t := by
  cases i with
  | rdStatus | rdMode | rdLfc0 | rdLfc1 | rdLfc2 | rdLfc3 | rdBatlo | rdBathi => cases h; exact .read _ rfl
  | cmdGuardSet | cmdGuardClr | cmdOvfClr | cmdModeAdv | cmdLedOn | cmdLedOff | evPor => cases h; constructor
  | evCountEdge => exact effect_of_execCountEdge h
  | evWindowTick => exact effect_of_execWindowTick h
  | evCarryService =>
    obtain ⟨enabled, rfl⟩ := ite_stuck_eq_next.mp h
    obtain ⟨pending, runs⟩ := Bool.and_eq_true_iff.mp enabled
    exact .carry pending runs
  | evBtnDown =>
    obtain ⟨released, rfl⟩ := ite_stuck_eq_next.mp h
    exact .btnDown released
  | evBtnUp =>
    obtain ⟨pressed, rfl⟩ := stuck_ite_eq_next.mp h
    exact .btnUp (Bool.eq_false_of_not_eq_true pressed)
  | evAdcResult v =>
    obtain ⟨runs, rfl⟩ := ite_stuck_eq_next.mp h
    exact .adcResult v runs

/-- The inversion of `step`: a word was taken, and it was refused or performed. -/
theorem step_cases {s t : State} (h : step s = .next t) :
    ∃ w rest, s.schedule = w :: rest
      ∧ ((∃ r, decode s.cfg.adcBits w = .error r ∧ t = (s.begin rest).refuse r)
        ∨ ∃ i, decode s.cfg.adcBits w = .ok i ∧ Effect (s.begin rest) i t) := by
  unfold step at h
  split at h
  · cases h
  next w rest scheduled =>
    refine ⟨w, rest, scheduled, ?_⟩
    split at h
    next r decoded => cases h; exact .inl ⟨r, decoded, rfl⟩
    next i decoded => exact .inr ⟨i, decoded, effect_of_exec h⟩

/-! ## The invariants (R27) -/

/-- The one entry action that writes no prescaler output is that of BatteryVoltage (R93), so that output must be on
before. -/
theorem inv_enterMode {s : State} (parameters : s.cfg.valid = true) (legal : s.mode ≠ 3)
    (prescaler : s.mode = batteryVoltage → s.pscEn = true) (fits : s.bat.toNat < 2 ^ s.cfg.adcBits)
    (nodup : s.faults.Nodup) : Inv s.enterMode := by
  obtain mode | mode | mode := mode_cases legal
  · rw [State.enterMode_of_base mode]
    constructor <;> simp [*]
  · rw [State.enterMode_of_extra mode]
    constructor <;> simp [*]
  · rw [State.enterMode_of_battery mode]
    constructor <;> simp [*]

theorem eq_extra_of_nextMode_eq_battery {m : BitVec 2} (h : nextMode m = batteryVoltage) : m = extraFrequency := by
  revert m; decide

theorem Inv.advanceMode {s : State} (inv : Inv s) : Inv s.advanceMode :=
  inv_enterMode inv.parameters (nextMode_ne_three s.mode)
    (fun h => inv.prescalerInExtra (eq_extra_of_nextMode_eq_battery h)) inv.sampleFits inv.faultsAreASet

theorem initialModeNumber_ne_three (m : InitialMode) : initialModeNumber m ≠ 3 := by cases m <;> decide

theorem initialModeNumber_ne_battery (m : InitialMode) : initialModeNumber m ≠ batteryVoltage := by cases m <;> decide

/-- Power-on reset leads into the invariants from outside them too. -/
theorem inv_powerOn {s : State} (parameters : s.cfg.valid = true) (nodup : s.faults.Nodup) : Inv s.powerOn :=
  inv_enterMode parameters (initialModeNumber_ne_three _) (fun h => absurd h (initialModeNumber_ne_battery _))
    (Nat.two_pow_pos _) nodup

theorem Inv.of_effect {i : Instr} {s t : State} (inv : Inv s) (effect : Effect s i t) : Inv t := by
  cases effect with
  | modeAdv => exact inv.advanceMode
  | por => exact inv_powerOn inv.parameters inv.faultsAreASet
  | adcResult v => exact { inv with sampleFits := sampleBits_lt _ v }
  | losingEdge => exact { inv with faultsAreASet := State.raiseFault_nodup inv.faultsAreASet _ }
  | _ => exact { inv with }

theorem Inv.begin {s : State} (inv : Inv s) (rest : List Word) : Inv (s.begin rest) := { inv with }

theorem Inv.refuse {s : State} (inv : Inv s) (r : RefusalReason) : Inv (s.refuse r) := { inv with }

/-- Settles O50: a refused word changes nothing the invariants speak of, and each effect of an operation keeps them. -/
theorem everyStepKeepsTheInvariants : Obligations.EveryStepKeepsTheInvariants := by
  intro s t inv h
  obtain ⟨_, rest, -, ⟨r, -, rfl⟩ | ⟨i, -, effect⟩⟩ := step_cases h
  · exact (inv.begin rest).refuse r
  · exact (inv.begin rest).of_effect effect

/-- A start state is a state after power-on reset (70_reset_and_hazards.md R141). -/
theorem State.start_powerOn (c : Config) (button : Bool) : (State.start c button).powerOn = State.start c button := by
  obtain ⟨_, initialMode, _, _, _⟩ := c
  cases initialMode <;> rfl

theorem inv_start {c : Config} (valid : c.valid = true) (button : Bool) : Inv (State.start c button) :=
  State.start_powerOn c button ▸ inv_powerOn valid List.nodup_nil

/-- Settles O49: reset is the start state of the default parameters, which are in range. -/
theorem startStatesMeetTheInvariants : Obligations.StartStatesMeetTheInvariants :=
  ⟨fun _ button valid => inv_start valid button, inv_start (by decide) true⟩

/-! ## The writers of each element (R10 to R23) -/

/-- No entry action sets the pending carry. -/
theorem State.pend_of_enterMode {s : State} (h : s.enterMode.pend = true) : s.pend = true := by
  contrapose h
  unfold State.enterMode
  repeat' split
  all_goals simp [h]

/-- Settles O43: an effect that leaves an element alone contradicts the clause's premise, and the others are those of the
operations the clause names. -/
theorem countIsWrittenOnlyByItsWriters : Obligations.CountIsWrittenOnlyByItsWriters := by
  intro i s t h
  cases effect_of_exec h with
  | plainEdge runs => simp +contextual [runs]
  | wrappingEdge runs full => simp [runs, full]
  | losingEdge runs full => simp [runs, full]
  | clearingTick _ clears => simp [clears]
  | modeAdv =>
    have keeps : s.advanceMode.pend = true → s.pend = true := State.pend_of_enterMode
    simpa using keeps
  | por =>
    have clears : s.powerOn.pend ≠ true := fun h => nomatch State.pend_of_enterMode h
    simp [clears]
  | _ => simp +contextual

/-- Settles O44, over the effects as O43: a carry sets `ovf` only where all three carry bytes wrap, and no entry action
touches a flag or `lfc`. -/
theorem flagsAndLfcAreWrittenOnlyByTheirWriters : Obligations.FlagsAndLfcAreWrittenOnlyByTheirWriters := by
  intro i s t h
  cases effect_of_exec h with
  | carry =>
    simp only [State.rippleCarry_ovf, Bool.or_eq_true, decide_eq_true_eq]
    simp +contextual [or_imp]
  | modeAdv => simp +contextual [State.advanceMode]
  | por => simp [State.powerOn]
  | _ => simp +contextual

/-- Settles O45, over the effects as O43: the entry actions write the mode's outputs, but not `led`, `btn_n`, `bat` or the
model's own fields. -/
theorem modeOutputsAndInputsAreWrittenOnlyByTheirWriters :
    Obligations.ModeOutputsAndInputsAreWrittenOnlyByTheirWriters := by
  intro i s t h
  cases effect_of_exec h with
  | modeAdv => simp [State.advanceMode]
  | por => simp [State.powerOn]
  | _ => simp

/-! ## The model's records (R24, R25) -/

theorem Effect.faults_subset {i : Instr} {s t : State} (effect : Effect s i t) : s.faults ⊆ t.faults := by
  cases effect with
  | losingEdge => exact fun f hf => (s.mem_raiseFault _ f).mpr (.inl hf)
  | modeAdv => simp [State.advanceMode]
  | por => simp [State.powerOn]
  | _ => exact List.Subset.refl _

theorem Effect.refused_eq {i : Instr} {s t : State} (effect : Effect s i t) : t.refused = s.refused := by
  cases effect with
  | modeAdv => exact State.enterMode_refused _
  | por => exact State.enterMode_refused _
  | _ => rfl

/-- Settles O47: a refused word sets the mark and records nothing, and an operation leaves the mark alone. -/
theorem bookkeepingIsSticky : Obligations.BookkeepingIsSticky := by
  intro s t h
  obtain ⟨_, rest, -, ⟨r, -, rfl⟩ | ⟨i, -, effect⟩⟩ := step_cases h
  · exact ⟨fun _ hf => hf, fun _ => rfl⟩
  · exact ⟨fun _ hf => effect.faults_subset hf, fun marked => effect.refused_eq.trans marked⟩

/-! ## What the host reads (R100 to R101, R83 to R86, R97, R98) -/

/-- Settles O48: each read answers a byte formed from elements other than the count and the pending carry. -/
theorem hostReadsDoNotShowTheRunningCount : Obligations.HostReadsDoNotShowTheRunningCount := by
  intro i s t u hw c1 c2 c3 pend kind ht hu
  cases i with
  | rdStatus | rdMode | rdLfc0 | rdLfc1 | rdLfc2 | rdLfc3 | rdBatlo | rdBathi =>
    cases ht
    cases hu
    exact ⟨rfl, rfl⟩
  | _ => cases kind

end Sys2Proof.Machine

/-! # Proofs: what a host access does (20_memory.md R34, R39) -/

namespace Sys2Proof.Machine

/-! ## Every access completes and is confined (R39) -/

/-- The host's operations have no enabling condition. -/
theorem exec_completes_of_host {i : Instr} (host : i.agent = .host) (s : State) : ∃ t, exec i s = .next t := by
  cases i with
  | rdStatus | rdMode | rdLfc0 | rdLfc1 | rdLfc2 | rdLfc3 | rdBatlo | rdBathi => exact ⟨_, rfl⟩
  | cmdGuardSet | cmdGuardClr | cmdOvfClr | cmdModeAdv | cmdLedOn | cmdLedOff => exact ⟨_, rfl⟩
  | _ => cases host

/-- Settles O40: of the effects only those of the host are left, and among them only the entry actions of MODE_ADV reach
the count or the enables; they touch neither `lfc` nor `bat`. -/
theorem hostAccessesCompleteAndAreConfined : Obligations.HostAccessesCompleteAndAreConfined := by
  intro i s host
  obtain ⟨t, ht⟩ := exec_completes_of_host host s
  refine ⟨t, ht, ?_⟩
  cases effect_of_exec ht with
  | read | guardSet | guardClr | ovfClr | ledOn | ledOff => simp
  | modeAdv => exact ⟨State.enterMode_lfc _, State.enterMode_bat _, fun other => absurd rfl other⟩
  | _ => cases host

/-! ## Reads have no side effect, and commands but MODE_ADV are idempotent (R34) -/

/-- Settles O41: no read's byte is formed from the answer that stands in `resp`. -/
theorem hostReadsHaveNoSideEffect : Obligations.HostReadsHaveNoSideEffect := by
  intro i s kind
  cases i with
  | rdStatus | rdMode | rdLfc0 | rdLfc1 | rdLfc2 | rdLfc3 | rdBatlo | rdBathi => exact ⟨_, rfl, rfl⟩
  | _ => cases kind

@[simp] theorem State.advanceMode_mode (s : State) : s.advanceMode.mode = nextMode s.mode := State.enterMode_mode _

theorem nextMode_ne_self (m : BitVec 2) : nextMode m ≠ m := by revert m; decide

theorem nextMode_nextMode_ne_self (m : BitVec 2) : nextMode (nextMode m) ≠ m := by revert m; decide

/-- A command but MODE_ADV writes a constant, so doing it again writes what is there. -/
theorem exec_command_idempotent {i : Instr} {s t : State} (kind : i.kind = .hostWrite) (other : i ≠ .cmdModeAdv)
    (h : exec i s = .next t) : exec i t = .next t := by
  cases i with
  | cmdGuardSet | cmdGuardClr | cmdOvfClr | cmdLedOn | cmdLedOff => cases h; rfl
  | cmdModeAdv => exact absurd rfl other
  | _ => cases kind

/-- Settles O42: MODE_ADV moves along a cycle of three modes (42_mode_fsm.md R90), so neither one nor two of them come
back. -/
theorem commandsButModeAdvAreIdempotent : Obligations.CommandsButModeAdvAreIdempotent := by
  refine ⟨fun _ _ _ => exec_command_idempotent, ?_⟩
  intro s t u _ ht hu
  cases ht
  cases hu
  simp only [State.advanceMode_mode]
  exact ⟨nextMode_ne_self _, nextMode_ne_self _, nextMode_nextMode_ne_self _⟩

end Sys2Proof.Machine

/-! # Proofs: which words are operations, and what the host port does with them (30_encoding.md) -/

namespace Sys2Proof

/-! ## Decode and encode agree (R59, R61) -/

/-- Settles O2: it is `decode_encode`. -/
theorem decodeOfEncodeIsTheOperation : Obligations.DecodeOfEncodeIsTheOperation := fun _ _ => decode_encode

/-- Settles O1: each word written out is the one the encoder builds, and the argument 717 fits 10 bits. -/
theorem writtenWordsDecodeToTheirOperations : Obligations.WrittenWordsDecodeToTheirOperations :=
  ⟨decode_encode (i := .rdStatus) rfl, decode_encode (i := .rdLfc3) rfl, decode_encode (i := .cmdModeAdv) rfl,
    decode_encode (i := .evWindowTick) rfl, decode_encode (i := .evAdcResult 717) (by decide),
    decode_encode (i := .evPor) rfl⟩

theorem decodeHostRead_eq_ok {w : Word} {i : Instr} (h : decodeHostRead w = .ok i) :
    fieldArg w = 0 ∧ readOperation (fieldA w) = some i := by
  unfold decodeHostRead at h
  split at h
  · cases h
  next zero =>
    obtain ⟨hH, hD⟩ := not_or.mp zero
    split at h
    · cases h
    split at h
    next j read =>
      cases h
      exact ⟨by rw [fieldArg_eq_append, not_not.mp hH, not_not.mp hD]; rfl, read⟩
    · cases h

theorem decodeHostWrite_eq_ok {w : Word} {i : Instr} (h : decodeHostWrite w = .ok i) :
    fieldA w = cmdAddress ∧ fieldArg w = 0#8 ++ fieldD w ∧ commandOperation (fieldD w) = some i := by
  unfold decodeHostWrite at h
  split at h
  · cases h
  next hH =>
    split at h
    · cases h
    split at h
    · cases h
    next hA =>
      split at h
      next j command =>
        cases h
        exact ⟨not_not.mp hA, by rw [fieldArg_eq_append, not_not.mp hH]; rfl, command⟩
      · cases h

theorem decodeBlockEvent_eq_ok {n : Nat} {w : Word} {i : Instr} (h : decodeBlockEvent n w = .ok i) :
    eventOperation (fieldA w) (fieldArg w) = some i ∧ (fieldA w ≠ 0x06 → fieldArg w = 0)
      ∧ (fieldA w = 0x06 → (fieldArg w).toNat < 2 ^ n) := by
  unfold decodeBlockEvent at h
  split at h
  · cases h
  next j event =>
    split at h
    · cases h
    next noArg =>
      split at h
      · cases h
      next fits =>
        cases h
        exact ⟨event, fun he => not_not.mp fun ha => noArg ⟨he, ha⟩, fun he => not_le.mp fun hle => fits ⟨he, hle⟩⟩

/-- The words an operation is decoded from, by kind: `decode_hostReadWord`, `decode_hostWriteWord` and
`decode_blockEventWord` leave none out. -/
theorem decode_ok_cases {n : Nat} {w : Word} {i : Instr} (h : decode n w = .ok i) :
    (∃ a, w = hostReadWord a ∧ readOperation a = some i)
      ∨ (∃ d, w = hostWriteWord cmdAddress d ∧ commandOperation d = some i)
      ∨ ∃ e arg, w = blockEventWord e arg ∧ eventOperation e arg = some i ∧ (e ≠ 0x06 → arg = 0)
          ∧ (e = 0x06 → arg.toNat < 2 ^ n) := by
  unfold decode at h
  split at h
  · cases h
  next notReserved =>
    split at h
    · cases h
    next hZ =>
      have word := (operationWord_fields (not_not.mp hZ)).symm
      split at h
      next hK =>
        obtain ⟨hArg, read⟩ := decodeHostRead_eq_ok h
        rw [hK, hArg] at word
        exact .inl ⟨_, word, read⟩
      next notRead =>
        split at h
        next hK =>
          obtain ⟨hA, hArg, command⟩ := decodeHostWrite_eq_ok h
          rw [hK, hA, hArg] at word
          exact .inr (.inl ⟨_, word, command⟩)
        next notWrite =>
          have hK : fieldK w = 0b10 := by bv_omega
          rw [hK] at word
          exact .inr (.inr ⟨_, _, word, decodeBlockEvent_eq_ok h⟩)

theorem encode_of_readOperation {a : Byte} {i : Instr} (n : Nat) (h : readOperation a = some i) :
    hostReadWord a = encode i ∧ i.wellFormed n = true := by
  unfold readOperation at h
  repeat' split at h
  all_goals cases h
  all_goals subst_vars
  all_goals exact ⟨rfl, rfl⟩

theorem encode_of_commandOperation {d : Byte} {i : Instr} (n : Nat) (h : commandOperation d = some i) :
    hostWriteWord cmdAddress d = encode i ∧ i.wellFormed n = true := by
  unfold commandOperation at h
  repeat' split at h
  all_goals cases h
  all_goals subst_vars
  all_goals exact ⟨rfl, rfl⟩

theorem encode_of_eventOperation {n : Nat} {e : Byte} {arg : BitVec 16} {i : Instr} (h : eventOperation e arg = some i)
    (noArg : e ≠ 0x06 → arg = 0) (fits : e = 0x06 → arg.toNat < 2 ^ n) :
    blockEventWord e arg = encode i ∧ i.wellFormed n = true := by
  by_cases he : e = 0x06
  · subst he
    cases h
    exact ⟨rfl, decide_eq_true (fits rfl)⟩
  · obtain rfl := noArg he
    simp only [eventOperation, if_neg he] at h
    repeat' split at h
    all_goals cases h
    all_goals subst_vars
    all_goals exact ⟨rfl, rfl⟩

/-- A word decodes to an operation exactly when it is the word of it, with an operand R61 admits. -/
theorem decode_eq_ok_iff {n : Nat} {w : Word} {i : Instr} :
    decode n w = .ok i ↔ w = encode i ∧ i.wellFormed n = true := by
  constructor
  · intro h
    obtain ⟨a, rfl, read⟩ | ⟨d, rfl, command⟩ | ⟨e, arg, rfl, event, noArg, fits⟩ := decode_ok_cases h
    · exact encode_of_readOperation n read
    · exact encode_of_commandOperation n command
    · exact encode_of_eventOperation event noArg fits
  · rintro ⟨rfl, wf⟩
    exact decode_encode wf

/-! ## The table of patterns (R58) -/

/-- The operations whose word is fixed, in the order of the table of R58: every one but ADC_RESULT. -/
def fixedOperations : List Instr :=
  [.rdStatus, .rdMode, .rdLfc0, .rdLfc1, .rdLfc2, .rdLfc3, .rdBatlo, .rdBathi, .cmdGuardSet, .cmdGuardClr, .cmdOvfClr,
    .cmdModeAdv, .cmdLedOn, .cmdLedOff, .evCountEdge, .evCarryService, .evWindowTick, .evBtnDown, .evBtnUp, .evPor]

theorem mem_fixedOperations_or_adcResult (i : Instr) : i ∈ fixedOperations ∨ ∃ v, i = .evAdcResult v := by
  cases i with
  | evAdcResult v => exact .inr ⟨v, rfl⟩
  | _ => exact .inl (by decide)

theorem wellFormed_of_mem_fixedOperations {i : Instr} (h : i ∈ fixedOperations) (n : Nat) : i.wellFormed n = true := by
  cases i with
  | evAdcResult v => simp [fixedOperations] at h
  | _ => rfl

theorem mem_patterns_iff {w : Word} {i : Instr} :
    (w, i) ∈ fixedOperations.map (fun j => (encode j, j)) ↔ i ∈ fixedOperations ∧ w = encode i := by
  simp [List.mem_map, eq_comm]

theorem encode_evAdcResult (v : BitVec 16) : encode (.evAdcResult v) = (0x8006#16 ++ v : BitVec 32) := rfl

/-- Settles O3: the 20 fixed patterns are the words of the 20 operations without an operand, in the table's order, and
the pattern with `vvvv` is that of ADC_RESULT, the one operation whose well-formedness says anything. -/
theorem definedWordsAreExactlyTheTwentyOnePatterns : Obligations.DefinedWordsAreExactlyTheTwentyOnePatterns := by
  intro n w i
  change _ ↔ (w, i) ∈ fixedOperations.map (fun j => (encode j, j)) ∨ _
  rw [decode_eq_ok_iff, mem_patterns_iff]
  constructor
  · rintro ⟨rfl, wf⟩
    obtain fixed | ⟨v, rfl⟩ := mem_fixedOperations_or_adcResult i
    · exact .inl ⟨fixed, rfl⟩
    · exact .inr ⟨v, rfl, encode_evAdcResult v, of_decide_eq_true wf⟩
  · rintro (⟨fixed, rfl⟩ | ⟨v, rfl, rfl, fits⟩)
    · exact ⟨rfl, wellFormed_of_mem_fixedOperations fixed n⟩
    · exact ⟨(encode_evAdcResult v).symm, decide_eq_true fits⟩

end Sys2Proof

namespace Sys2Proof.Machine

/-! ## The host port (R52 to R56) -/

theorem step_of_refused {s : State} {w : Word} {rest : List Word} {r : RefusalReason} (hs : s.schedule = w :: rest)
    (hd : decode s.cfg.adcBits w = .error r) : step s = .next ((s.begin rest).refuse r) := by
  simp [step, hs, hd]

theorem not_mem_implementedAddresses_iff (a : Byte) : a ∉ implementedAddresses ↔ a = 0x03 ∨ 0x0A ≤ a.toNat := by
  simp [implementedAddresses, ← BitVec.toNat_inj]
  omega

/-- The port answers the byte of the read that stands in the decoder's map. -/
theorem exec_of_hostRead {s : State} {a d : Byte} (h : s.hostRead a = .ok d) :
    ∃ i, readOperation a = some i ∧ exec i s = .next (s.answer d) := by
  unfold State.hostRead at h
  repeat' split at h
  all_goals cases h
  all_goals subst_vars
  all_goals exact ⟨_, rfl, rfl⟩

theorem decode_hostReadWord_of_not_mem {a : Byte} (n : Nat) (h : a ∉ implementedAddresses) :
    decode n (hostReadWord a) = .error .reservedAddress := by
  simp [decode, decodeHostRead, hostReadWord, h]

/-- The port refuses a read with the decoder's reason: CMD is only written, and the other addresses are not mapped. -/
theorem decode_of_hostRead_error {s : State} {a : Byte} {r : RefusalReason} (n : Nat) (h : s.hostRead a = .error r) :
    decode n (hostReadWord a) = .error r := by
  unfold State.hostRead at h
  repeat' split at h
  all_goals cases h
  · subst_vars
    rfl
  · exact decode_hostReadWord_of_not_mem n ((not_mem_implementedAddresses_iff a).mpr (by bv_omega))

/-- Settles O7: what the port answers is what the operation at the address answers, and what it refuses the decoder
refuses. -/
theorem hostReadOfAnyAddressFollowsTheRegisterMap : Obligations.HostReadOfAnyAddressFollowsTheRegisterMap := by
  intro s a rest hs
  cases access : s.hostRead a with
  | ok d =>
    obtain ⟨i, read, answers⟩ := exec_of_hostRead (s := s.begin rest) access
    exact (step_of_decode hs (decode_hostReadWord _ read)).trans answers
  | error r => exact step_of_refused hs (decode_of_hostRead_error _ access)

/-- The command register does what the operation of the code does. -/
theorem exec_of_command {s t : State} {d : Byte} (h : s.command d = .ok t) :
    ∃ i, commandOperation d = some i ∧ exec i s = .next t := by
  unfold State.command at h
  repeat' split at h
  all_goals cases h
  all_goals subst_vars
  all_goals exact ⟨_, rfl, rfl⟩

theorem commandOperation_of_command_error {s : State} {d : Byte} {r : RefusalReason} (h : s.command d = .error r) :
    commandOperation d = none ∧ r = .reservedCommand := by
  unfold State.command at h
  repeat' split at h
  all_goals cases h
  simp only [commandOperation, *, if_false, and_self]

theorem exec_of_hostWrite {s t : State} {a d : Byte} (h : s.hostWrite a d = .ok t) :
    a = cmdAddress ∧ ∃ i, commandOperation d = some i ∧ exec i s = .next t := by
  unfold State.hostWrite at h
  split at h
  next ha => exact ⟨ha, exec_of_command h⟩
  · split at h <;> cases h

theorem decode_hostWriteWord_eq (n : Nat) (a d : Byte) :
    decode n (hostWriteWord a d) = decodeHostWrite (hostWriteWord a d) := by
  simp [decode, hostWriteWord]

@[simp] theorem fieldA_hostWriteWord (a d : Byte) : fieldA (hostWriteWord a d) = a := fieldA_operationWord _ _ _

@[simp] theorem fieldH_hostWriteWord (a d : Byte) : fieldH (hostWriteWord a d) = 0 :=
  (fieldH_operationWord _ _ _).trans BitVec.extractLsb'_append_eq_left

@[simp] theorem fieldD_hostWriteWord (a d : Byte) : fieldD (hostWriteWord a d) = d :=
  (fieldD_operationWord _ _ _).trans BitVec.extractLsb'_append_eq_right

/-- The port refuses a write with the decoder's reason: for its code at CMD, and elsewhere for its address or its
direction. -/
theorem decode_of_hostWrite_error {s : State} {a d : Byte} {r : RefusalReason} (n : Nat)
    (h : s.hostWrite a d = .error r) : decode n (hostWriteWord a d) = .error r := by
  rw [decode_hostWriteWord_eq]
  unfold State.hostWrite at h
  split at h
  next hA =>
    obtain ⟨noCommand, rfl⟩ := commandOperation_of_command_error h
    subst hA
    simp [decodeHostWrite, implementedAddresses, cmdAddress, noCommand]
  next hA =>
    simp only [← not_mem_implementedAddresses_iff] at h
    have notCmd : a ≠ cmdAddress := hA
    split at h
    next unmapped => cases h; simp [decodeHostWrite, unmapped]
    next mapped => cases h; simp [decodeHostWrite, not_not.mp mapped, notCmd]

theorem hostWriteWord_eq_append (a d : Byte) :
    hostWriteWord a d = (0b01#2 ++ 0#6 ++ a ++ 0#8 ++ d : BitVec 32) := by
  rw [BitVec.append_assoc]
  rfl

/-- Settles O8: what the port executes is the operation of the code at CMD, and what it refuses the decoder refuses. -/
theorem hostWriteOfAnyByteFollowsTheCommandTable : Obligations.HostWriteOfAnyByteFollowsTheCommandTable := by
  intro s a d rest hs
  rw [← hostWriteWord_eq_append] at hs
  cases access : State.hostWrite { s with schedule := rest, resp := .silent } a d with
  | ok t =>
    obtain ⟨hA, i, command, performs⟩ := exec_of_hostWrite access
    subst hA
    exact (step_of_decode hs (decode_hostWriteWord _ command)).trans performs
  | error r => exact step_of_refused hs (decode_of_hostWrite_error _ access)

/-! ## The pseudo-instructions (R63) -/

theorem perform_countEdge_of_room {s : State} (runs : s.extEn = true) (room : s.hw ≠ 255) :
    perform .evCountEdge s = .next { s with hw := inc8 s.hw, resp := .silent } := by
  simp only [perform, exec, execCountEdge, State.begin_extEn, State.begin_hw, runs, if_true, if_neg room]
  rfl

/-- Settles O52, by induction on the number of edges. -/
theorem edgesPseudoCountsItsEdges : Obligations.EdgesPseudoCountsItsEdges := by
  intro s n runs room
  induction n generalizing s with
  | zero => exact ⟨[], s, .nil s, rfl, by simp⟩
  | succ n ih =>
    have notFull : s.hw ≠ 255 := by bv_omega
    have counted : (inc8 s.hw).toNat = s.hw.toNat + 1 := by rw [inc8_toNat]; omega
    obtain ⟨run, t, hrun, ops, ht⟩ :=
      ih { s with hw := inc8 s.hw, resp := .silent } runs (by simp only [counted]; omega)
    have sum : inc8 s.hw + BitVec.ofNat 8 n = s.hw + BitVec.ofNat 8 (n + 1) := by unfold inc8; bv_omega
    exact ⟨_, t, .cons s _ t .evCountEdge run (perform_countEdge_of_room runs notFull) hrun,
      congrArg (Instr.evCountEdge :: ·) ops, by simpa only [sum] using ht⟩

/-- The state while `read_lfc` holds the guard, with `r` the latest answer. -/
def State.guarded (s : State) (r : Response) : State := { s with guard := true, resp := r }

/-- Settles O53: no operation of it has an enabling condition, and neither a guard command nor a read writes `lfc`. -/
theorem readLfcPseudoReadsTheFourBytes : Obligations.ReadLfcPseudoReadsTheFourBytes := by
  intro s
  refine ⟨_, { s with guard := false, resp := .silent },
    .cons s (s.guarded .silent) _ .cmdGuardSet _ rfl <|
    .cons _ (s.guarded (.data (s.lfcByte 0))) _ .rdLfc0 _ rfl <|
    .cons _ (s.guarded (.data (s.lfcByte 1))) _ .rdLfc1 _ rfl <|
    .cons _ (s.guarded (.data (s.lfcByte 2))) _ .rdLfc2 _ rfl <|
    .cons _ (s.guarded (.data (s.lfcByte 3))) _ .rdLfc3 _ rfl <|
    .cons _ _ _ .cmdGuardClr _ rfl <| .nil _, ?_⟩
  exact ⟨rfl, rfl, rfl⟩

@[simp] theorem State.advanceMode_btnN (s : State) : s.advanceMode.btnN = s.btnN := State.enterMode_btnN _

/-- Settles O54: the button events do not write the mode, and the MODE_ADV after them does not write the button. -/
theorem pressPseudoAdvancesTheMode : Obligations.PressPseudoAdvancesTheMode := by
  intro s released
  have down : perform .evBtnDown s = .next ((s.begin s.schedule).setButton false) :=
    ite_stuck_eq_next.mpr ⟨released, rfl⟩
  refine ⟨_, _, .cons _ _ _ .evBtnDown _ down <| .cons _ _ _ .evBtnUp _ rfl <| .cons _ _ _ .cmdModeAdv _ rfl <| .nil _,
    rfl, ?_, ?_⟩
  · rw [State.advanceMode_btnN]
    rfl
  · rw [State.advanceMode_mode, nextMode_toNat]
    simp only [State.begin_mode, State.setButton_mode]

end Sys2Proof.Machine

/-! # Proofs: the extended pulse counter (40_counter.md) -/

namespace Sys2Proof.Machine

/-! ## The count as a number (10_state.md R12) -/

theorem toNat_append_byte {n : Nat} (x : BitVec n) (y : Byte) : (x ++ y).toNat = 256 * x.toNat + y.toNat := by
  rw [BitVec.toNat_append, ← Nat.shiftLeft_add_eq_or_of_lt y.isLt, Nat.shiftLeft_eq, Nat.mul_comm]

theorem carryBytes_toNat (s : State) : (s.c3 ++ s.c2 ++ s.c1 : BitVec 24).toNat = carryValue s := by
  rw [toNat_append_byte, toNat_append_byte, carryValue]
  omega

theorem extendedCount_toNat (s : State) : s.extendedCount.toNat = 256 * carryValue s + s.hw.toNat := by
  rw [State.extendedCount, toNat_append_byte, carryBytes_toNat]

theorem c2_toNat_of_carryValue {s : State} {k : Nat} (h : carryValue s = k % 2 ^ 24) :
    s.c2.toNat = k / 256 % 256 := by
  unfold carryValue at h
  omega

theorem c3_toNat_of_carryValue {s : State} {k : Nat} (h : carryValue s = k % 2 ^ 24) :
    s.c3.toNat = k / 65536 % 256 := by
  unfold carryValue at h
  omega

theorem carryValue_eq_max_iff (s : State) :
    carryValue s = 0xFFFFFF ↔ s.c1 = 255 ∧ s.c2 = 255 ∧ s.c3 = 255 := by
  unfold carryValue
  constructor
  · exact fun h => ⟨by bv_omega, by bv_omega, by bv_omega⟩
  · rintro ⟨h1, h2, h3⟩
    rw [h1, h2, h3]
    rfl

theorem State.rippleCarry_ovf_eq (s : State) : s.rippleCarry.ovf = (s.ovf || decide (carryValue s = 0xFFFFFF)) := by
  simp only [State.rippleCarry_ovf, carryValue_eq_max_iff]

/-! ## The count over one transition -/

/-- MODE_ADV starts no window only on the way into BatteryVoltage, whose entry action leaves the count alone
(42_mode_fsm.md R93). -/
theorem advanceMode_of_noWindow {s : State}
    (stays : (Transition.mk s .cmdModeAdv s.advanceMode).startsWindow = false) :
    s.advanceMode = { s with mode := nextMode s.mode }.enterBatteryVoltage := by
  have notMeasuring : nextMode s.mode ≠ baseFrequency ∧ nextMode s.mode ≠ extraFrequency := by
    simpa [Transition.startsWindow, Transition.runsSetup] using stays
  apply State.enterMode_of_battery
  obtain base | extra | battery := mode_cases (nextMode_ne_three s.mode)
  · exact absurd base notMeasuring.1
  · exact absurd extra notMeasuring.2
  · exact battery

/-- Inside a window only COUNT_EDGE and CARRY_SERVICE touch the count or the pending carry. -/
theorem Effect.count_kept {i : Instr} {s t : State} (effect : Effect s i t)
    (stays : (Transition.mk s i t).startsWindow = false) (edge : i ≠ .evCountEdge) (service : i ≠ .evCarryService) :
    t.hw = s.hw ∧ t.pend = s.pend ∧ carryValue t = carryValue s := by
  cases effect with
  | haltedEdge | plainEdge | wrappingEdge | losingEdge => exact absurd rfl edge
  | carry => exact absurd rfl service
  | keepingTick | clearingTick | por => cases stays
  | modeAdv =>
    rw [advanceMode_of_noWindow stays]
    exact ⟨rfl, rfl, rfl⟩
  | _ => exact ⟨rfl, rfl, rfl⟩

theorem Effect.carryValue_of_edge {s t : State} (effect : Effect s .evCountEdge t) : carryValue t = carryValue s := by
  cases effect with
  | read _ kind => cases kind
  | _ => rfl

theorem Effect.service_cases {s t : State} (effect : Effect s .evCarryService t) :
    s.pend = true ∧ t = (s.setPending false).rippleCarry := by
  cases effect with
  | read _ kind => cases kind
  | carry pending => exact ⟨pending, rfl⟩

theorem Effect.carryValue_of_service {s t : State} (effect : Effect s .evCarryService t) :
    carryValue t = (carryValue s + 1) % 2 ^ 24 := by
  obtain ⟨-, rfl⟩ := effect.service_cases
  exact State.rippleCarry_value _

/-- Inside a window the carry bytes count the services. -/
theorem Effect.carryValue_eq {i : Instr} {s t : State} (effect : Effect s i t)
    (stays : (Transition.mk s i t).startsWindow = false) :
    carryValue t = (carryValue s + if i = .evCarryService then 1 else 0) % 2 ^ 24 := by
  by_cases service : i = .evCarryService
  · subst service
    exact effect.carryValue_of_service
  rw [if_neg service, Nat.add_zero, Nat.mod_eq_of_lt (carryValue_lt s)]
  by_cases edge : i = .evCountEdge
  · subst edge
    exact effect.carryValue_of_edge
  · exact (effect.count_kept stays edge service).2.2

/-! ## The ripple-carry law (R72) -/

theorem timesOf_cons (j i : Instr) (s t : State) (run : List Transition) :
    timesOf j (⟨s, i, t⟩ :: run) = timesOf j run + if i = j then 1 else 0 := by
  simp [timesOf, List.countP_cons]

theorem Run.of_append {s t : State} {before rest : List Transition} (h : Run s (before ++ rest) t) :
    ∃ u, Run s before u ∧ Run u rest t := by
  induction before generalizing s with
  | nil => exact ⟨s, .nil s, h⟩
  | cons tr before ih =>
    cases h with
    | cons _ u _ i _ first tail =>
      obtain ⟨v, left, right⟩ := ih tail
      exact ⟨v, .cons s u v i before first left, right⟩

theorem Run.carryValue_eq {s t : State} {run : List Transition} (h : Run s run t)
    (window : ∀ tr ∈ run, tr.startsWindow = false) :
    carryValue t = (carryValue s + timesOf .evCarryService run) % 2 ^ 24 := by
  induction h with
  | nil s => exact (Nat.mod_eq_of_lt (carryValue_lt s)).symm
  | cons s u t i rest first tail ih =>
    obtain ⟨head, window⟩ := List.forall_mem_cons.mp window
    have step : carryValue u = (carryValue s + _) % 2 ^ 24 := (effect_of_exec first).carryValue_eq head
    rw [ih window, step, timesOf_cons]
    omega

/-- Adding one passes a multiple of `unit` exactly when it changes the digit at `unit`. -/
theorem div_succ_of_digits {unit k : Nat} {b b' : Byte} (hb : b.toNat = k / unit % 256)
    (hb' : b'.toNat = (k + 1) / unit % 256) :
    (k + 1) / unit = k / unit + if (b != b') = true then 1 else 0 := by
  by_cases passes : unit ∣ k + 1
  · rw [Nat.succ_div_of_dvd passes] at hb' ⊢
    have changed : b ≠ b' := by bv_omega
    simp [changed]
  · rw [Nat.succ_div_of_not_dvd passes] at hb' ⊢
    have same : b = b' := BitVec.eq_of_toNat_eq (hb.trans hb'.symm)
    simp [same]

/-- In a window from `k` carries on, the byte of the carries at `unit` changes once for each multiple of `unit` their
number passes. -/
theorem Run.byte_changes {byte : State → Byte} {unit : Nat}
    (digit : ∀ {s : State} {k : Nat}, carryValue s = k % 2 ^ 24 → (byte s).toNat = k / unit % 256)
    {s t : State} {run : List Transition} (h : Run s run t) (window : ∀ tr ∈ run, tr.startsWindow = false)
    {k : Nat} (start : carryValue s = k % 2 ^ 24) :
    (k + timesOf .evCarryService run) / unit
      = k / unit + run.countP (fun tr => byte tr.pre != byte tr.post) := by
  induction h generalizing k with
  | nil s => simp [timesOf]
  | cons s u t i rest first tail ih =>
    obtain ⟨head, window⟩ := List.forall_mem_cons.mp window
    have step : carryValue u = (carryValue s + _) % 2 ^ 24 := (effect_of_exec first).carryValue_eq head
    simp only [timesOf_cons, List.countP_cons]
    split at step
    next service =>
      have next : carryValue u = (k + 1) % 2 ^ 24 := by omega
      have passed := div_succ_of_digits (digit start) (digit next)
      have later := ih window next
      rw [if_pos service, Nat.add_comm (timesOf _ _), ← Nat.add_assoc]
      omega
    next other =>
      have next : carryValue u = k % 2 ^ 24 := by omega
      have same : byte s = byte u := BitVec.eq_of_toNat_eq ((digit start).trans (digit next).symm)
      simpa [same, other] using ih window next

/-- Settles O12: over the window the carry bytes are the number of services, so `c2` and `c3` change where that passes a
multiple of 256 and of 65,536, and the service that finds them full is one before a multiple of 2^24. -/
theorem rippleCarryCountsServices : Obligations.RippleCarryCountsServices := by
  intro s t run h c1 c2 c3 window
  have start : carryValue s = 0 := by simp [carryValue, c1, c2, c3]
  refine ⟨⟨?_, ?_⟩, ?_⟩
  · simpa using (h.byte_changes c2_toNat_of_carryValue window (k := 0) start).symm
  · simpa using (h.byte_changes c3_toNat_of_carryValue window (k := 0) start).symm
  · rintro before after ⟨pre, i, post⟩ rfl service
    obtain rfl : i = .evCarryService := service
    obtain ⟨_, left, right⟩ := h.of_append
    cases right with
    | cons _ _ _ _ _ first _ =>
      have count := left.carryValue_eq fun tr mem => window tr (List.mem_append_left _ mem)
      obtain ⟨-, rfl⟩ := (effect_of_exec first).service_cases
      have full : carryValue pre = 0xFFFFFF ↔ (timesOf .evCarryService before + 1) % 16777216 = 0 := by omega
      exact (State.rippleCarry_ovf_eq _).trans (congrArg (pre.ovf || ·) (decide_eq_decide.mpr full))

/-! ## The count of a window (R73) -/

/-- What a window adds up: the extended count, and 256 for a pending carry. -/
def State.tally (s : State) : Nat := s.hw.toNat + 256 * (carryValue s + s.pend.toNat)

theorem State.tally_eq (s : State) : s.tally = s.extendedCount.toNat + 256 * s.pend.toNat := by
  rw [State.tally, extendedCount_toNat]
  omega

/-- An entry to a frequency mode runs the setup (42_mode_fsm.md R91, R92, R94). -/
theorem enterMode_clears {s : State} (measuring : s.mode = baseFrequency ∨ s.mode = extraFrequency) :
    s.enterMode.hw = 0 ∧ carryValue s.enterMode = 0 ∧ s.enterMode.pend = false := by
  obtain mode | mode := measuring
  · rw [State.enterMode_of_base mode]
    exact ⟨rfl, rfl, rfl⟩
  · rw [State.enterMode_of_extra mode]
    exact ⟨rfl, rfl, rfl⟩

theorem initialModeNumber_measures (m : InitialMode) :
    initialModeNumber m = baseFrequency ∨ initialModeNumber m = extraFrequency := by
  cases m with
  | baseFrequency => exact .inl rfl
  | extraFrequency => exact .inr rfl

theorem startsWindow_of_hostRead {i : Instr} (kind : i.kind = .hostRead) (s t : State) :
    (Transition.mk s i t).startsWindow = false := by
  cases i with
  | rdStatus | rdMode | rdLfc0 | rdLfc1 | rdLfc2 | rdLfc3 | rdBatlo | rdBathi => rfl
  | _ => cases kind

/-- A window starts with the count 0, and with a carry pending only if a tick found one and keeps it. -/
theorem Effect.window_start {i : Instr} {s t : State} (effect : Effect s i t)
    (starts : (Transition.mk s i t).startsWindow = true) :
    t.hw = 0 ∧ carryValue t = 0
      ∧ t.pend = (decide (i = .evWindowTick) && !s.cfg.sampleClearsPending && s.pend) := by
  cases effect with
  | keepingTick _ keeps => exact ⟨rfl, rfl, by simp [keeps]⟩
  | clearingTick _ clears => exact ⟨rfl, rfl, by simp [clears]⟩
  | modeAdv => exact enterMode_clears (by simpa [Transition.startsWindow, Transition.runsSetup] using starts)
  | por => exact enterMode_clears (initialModeNumber_measures _)
  | read _ kind => simp [startsWindow_of_hostRead kind] at starts
  | _ => cases starts

/-- Each edge adds one to the tally while the counter runs; one that loses a carry leaves 256 out as well. -/
theorem Effect.tally_of_edge {s t : State} (effect : Effect s .evCountEdge t) :
    t.tally + 256 * (Transition.mk s .evCountEdge t).losesCarry.toNat
      = s.tally + (Transition.mk s .evCountEdge t).countsEdge.toNat := by
  simp only [State.tally, effect.carryValue_of_edge, Transition.losesCarry, Transition.countsEdge, decide_true,
    Bool.true_and]
  cases effect with
  | read _ kind => cases kind
  | haltedEdge halted => simp [halted]
  | plainEdge runs room =>
    have counted : (inc8 s.hw).toNat = s.hw.toNat + 1 := by rw [inc8_toNat]; bv_omega
    simp only [counted, runs, decide_eq_false room, Bool.and_false, Bool.false_and, Bool.toNat_false, Bool.toNat_true]
    omega
  | wrappingEdge runs full clear =>
    simp only [runs, full, clear, Bool.and_false, Bool.toNat_false, Bool.toNat_true,
      BitVec.ofNat_eq_ofNat, BitVec.toNat_ofNat]
    omega
  | losingEdge runs full pending =>
    simp only [runs, full, pending, decide_true, Bool.and_true, Bool.toNat_true,
      BitVec.ofNat_eq_ofNat, BitVec.toNat_ofNat]
    omega

/-- A service moves the pending carry into the carry bytes. -/
theorem Effect.tally_of_service {s t : State} (effect : Effect s .evCarryService t) :
    t.tally % 2 ^ 32 = s.tally % 2 ^ 32 := by
  have carried := effect.carryValue_of_service
  obtain ⟨pending, rfl⟩ := effect.service_cases
  simp only [State.tally, carried, pending, State.rippleCarry_hw, State.rippleCarry_pend, State.setPending_hw,
    State.setPending_pend, Bool.toNat_true, Bool.toNat_false]
  omega

theorem countsEdge_eq_false {tr : Transition} (h : tr.op ≠ .evCountEdge) : tr.countsEdge = false := by
  simp [Transition.countsEdge, h]

theorem losesCarry_eq_false {tr : Transition} (h : tr.op ≠ .evCountEdge) : tr.losesCarry = false := by
  simp [Transition.losesCarry, countsEdge_eq_false h]

theorem Effect.tally_eq {i : Instr} {s t : State} (effect : Effect s i t)
    (stays : (Transition.mk s i t).startsWindow = false) :
    (t.tally + 256 * (Transition.mk s i t).losesCarry.toNat) % 2 ^ 32
      = (s.tally + (Transition.mk s i t).countsEdge.toNat) % 2 ^ 32 := by
  by_cases edge : i = .evCountEdge
  · subst edge
    exact congrArg (· % 2 ^ 32) effect.tally_of_edge
  rw [countsEdge_eq_false edge, losesCarry_eq_false edge]
  by_cases service : i = .evCarryService
  · subst service
    exact effect.tally_of_service
  · obtain ⟨hw, pend, carries⟩ := effect.count_kept stays edge service
    simp [State.tally, hw, pend, carries]

theorem countP_cons_toNat (p : Transition → Bool) (tr : Transition) (run : List Transition) :
    (tr :: run).countP p = run.countP p + (p tr).toNat := by
  rw [List.countP_cons, Bool.toNat, Bool.cond_eq_ite]

theorem Run.tally_eq {s t : State} {run : List Transition} (h : Run s run t)
    (window : ∀ tr ∈ run, tr.startsWindow = false) :
    (t.tally + 256 * run.countP (fun tr => tr.losesCarry)) % 2 ^ 32
      = (s.tally + run.countP (fun tr => tr.countsEdge)) % 2 ^ 32 := by
  induction h with
  | nil s => rfl
  | cons s u t i rest first tail ih =>
    obtain ⟨head, window⟩ := List.forall_mem_cons.mp window
    have step : (u.tally + 256 * (Transition.mk s i u).losesCarry.toNat) % 2 ^ 32
        = (s.tally + (Transition.mk s i u).countsEdge.toNat) % 2 ^ 32 := (effect_of_exec first).tally_eq head
    have later := ih window
    rw [countP_cons_toNat, countP_cons_toNat]
    omega

/-- Settles O13: the window starts with nothing but `p0` in its tally, and over its transitions the tally and the lost
carries together stay with the edges counted. -/
theorem windowCountEqualsTheEdgesCounted : Obligations.WindowCountEqualsTheEdgesCounted := by
  intro s0 s t i run opening starts h window
  obtain ⟨hw, carries, pend⟩ := (effect_of_exec opening).window_start starts
  have opened : s.tally = 256 * s.pend.toNat := by simp [State.tally, hw, carries]
  have total := h.tally_eq window
  rw [State.tally_eq, opened, Nat.add_comm (256 * s.pend.toNat)] at total
  exact ⟨pend, total⟩

/-! ## CARRY_SERVICE (R71, R74) -/

theorem carryBytes_of_carryValue {s : State} {n : BitVec 24} (h : carryValue s = n.toNat) :
    s.c1 = n.extractLsb' 0 8 ∧ s.c2 = n.extractLsb' 8 8 ∧ s.c3 = n.extractLsb' 16 8 := by
  simp only [← BitVec.toNat_inj, BitVec.extractLsb'_toNat, ← h, carryValue]
  omega

/-- The ripple is the addition of one to the 24-bit value. -/
theorem State.rippleCarry_eq (s : State) :
    let carries : BitVec 24 := s.c3 ++ s.c2 ++ s.c1
    s.rippleCarry = { s with
      c1 := (carries + 1).extractLsb' 0 8
      c2 := (carries + 1).extractLsb' 8 8
      c3 := (carries + 1).extractLsb' 16 8
      ovf := s.ovf || decide (carries = 0xFFFFFF) } := by
  intro carries
  have value : carries.toNat = carryValue s := carryBytes_toNat s
  obtain ⟨c1, c2, c3⟩ : s.rippleCarry.c1 = _ ∧ s.rippleCarry.c2 = _ ∧ s.rippleCarry.c3 = _ :=
    carryBytes_of_carryValue (n := carries + 1) (by rw [s.rippleCarry_value, ← value]; rfl)
  have full : carries = 0xFFFFFF ↔ carryValue s = 0xFFFFFF := by rw [← value, ← BitVec.toNat_inj]; rfl
  rw [decide_eq_decide.mpr full, ← s.rippleCarry_ovf_eq, ← c1, ← c2, ← c3]
  rfl

theorem exec_carryService_of_enabled {s : State} (pending : s.pend = true) (runs : s.extEn = true) :
    exec .evCarryService s = .next (s.setPending false).rippleCarry := by
  simp [exec, execCarryService, pending, runs]

/-- Settles O11: the ripple adds one to the 24-bit value, and without the request or the enable there is none. -/
theorem carryServiceIncrementsTheCarryBytes : Obligations.CarryServiceIncrementsTheCarryBytes := by
  refine ⟨fun _ => decode_encode (i := .evCarryService) rfl, fun s => ⟨fun pending runs => ?_, fun disabled => ?_⟩⟩
  · rw [exec_carryService_of_enabled pending runs, State.rippleCarry_eq]
    rfl
  · have notEnabled : ¬ (s.pend && s.extEn) = true := by rcases disabled with h | h <;> simp [h]
    exact if_neg notEnabled

/-- Only OVF_CLR and power-on reset clear `ovf` (10_state.md R14, 70_reset_and_hazards.md R140). -/
theorem Run.ovf_stays {s t : State} {run : List Transition} (h : Run s run t) (set : s.ovf = true)
    (keeps : ∀ tr ∈ run, tr.op ≠ .cmdOvfClr ∧ tr.op ≠ .evPor) : t.ovf = true := by
  induction h with
  | nil s => exact set
  | cons s u t i rest first tail ih =>
    obtain ⟨⟨notClear, notReset⟩, keeps⟩ := List.forall_mem_cons.mp keeps
    obtain ⟨-, cleared, -⟩ := flagsAndLfcAreWrittenOnlyByTheirWriters i _ u first
    refine ih (Bool.eq_true_of_not_eq_false fun unset => ?_) keeps
    exact (cleared unset set).elim notClear notReset

/-- Settles O14: the service is that of O11 at the value 0xFFFFFF, and a run keeps a set flag. -/
theorem countWrapsAndTheFlagStays : Obligations.CountWrapsAndTheFlagStays := by
  refine ⟨fun s pending runs c1 c2 c3 => ?_, fun s t run h => h.ovf_stays⟩
  obtain ⟨-, service⟩ := carryServiceIncrementsTheCarryBytes
  obtain ⟨serves, -⟩ := service s
  simpa [c1, c2, c3] using serves pending runs

/-! ## COUNT_EDGE (R70) -/

theorem exec_countEdge_of_room {s : State} (runs : s.extEn = true) (room : s.hw ≠ 255) :
    exec .evCountEdge s = .next { s with hw := s.hw + 1 } := by
  simp only [exec, execCountEdge, runs, if_true, if_neg room, inc8]

theorem exec_countEdge_of_full {s : State} (runs : s.extEn = true) (full : s.hw = 255) :
    exec .evCountEdge s = .next s.wrapCounter := by
  simp only [exec, execCountEdge, runs, if_true, if_pos full]

/-- Settles O10: an edge at 255 is a wrap, which records F1 where a carry is pending, unless F1 is there already. -/
theorem countEdgeIncrementsAndLatchesTheCarry : Obligations.CountEdgeIncrementsAndLatchesTheCarry := by
  refine ⟨fun _ => decode_encode (i := .evCountEdge) rfl, fun s => ⟨?_, exec_countEdge_of_room, ?_, ?_, ?_⟩⟩
  · intro halted
    simp [exec, execCountEdge, halted]
  · intro runs full clear
    rw [exec_countEdge_of_full runs full, State.wrapCounter_of_clear clear]
  · intro runs full pending fresh
    rw [exec_countEdge_of_full runs full, State.wrapCounter_of_pending pending]
    simp [State.raiseFault, fresh, pending]
  · intro runs full pending recorded
    rw [exec_countEdge_of_full runs full, State.wrapCounter_of_pending pending]
    simp [State.raiseFault, recorded, pending]

end Sys2Proof.Machine

/-! # Proofs: the snapshot sampler and the reading guard (41_sampler.md) -/

namespace Sys2Proof.Machine

/-! ## A window tick (R80) -/

theorem State.capture_of_clear {s : State} (clear : s.guard = false) :
    s.capture = { s with lfc := s.extendedCount } := by
  simp [State.capture, State.captures, State.takesDraw, clear]

theorem State.capture_of_guarded {s : State} (guarded : s.guard = true) (noLag : s.cfg.guardLag = false) :
    s.capture = s := by
  simp [State.capture, State.captures_of_guarded guarded noLag, State.takesDraw_of_noLag noLag]

theorem State.capture_of_lag {s : State} (guarded : s.guard = true) (lag : s.cfg.guardLag = true) :
    s.capture = { s with
      lfc := if Config.captureDraw s.draws then s.extendedCount else s.lfc
      draws := s.draws + 1 } := by
  simp [State.capture, State.captures, State.takesDraw, guarded, lag]

theorem exec_windowTick_of_enabled {s : State} (runs : s.smpEn = true) :
    exec .evWindowTick s =
      .next (s.capture.zeroCount.setPending (if s.cfg.sampleClearsPending then false else s.pend)) := by
  refine ite_stuck_eq_next.mpr ⟨runs, ?_⟩
  rw [apply_ite (State.setPending _)]
  rfl

theorem Effect.tick_zeroes {s t : State} (effect : Effect s .evWindowTick t) :
    t.hw = 0 ∧ t.c1 = 0 ∧ t.c2 = 0 ∧ t.c3 = 0 := by
  cases effect with
  | read _ kind => cases kind
  | keepingTick | clearingTick => exact ⟨rfl, rfl, rfl, rfl⟩

/-! ## Under the guard (R88) -/

/-- The guard holds the value `v` of `lfc`: it is set, and without `P_GUARD_LAG` no tick captures. -/
structure GuardHolds (v : Word) (s : State) : Prop where
  guarded : s.guard = true
  noLag : s.cfg.guardLag = false
  lfc : s.lfc = v

/-- Of the two writers of `lfc`, power-on reset is left out, and a tick finds the guard set. -/
theorem GuardHolds.of_exec {v : Word} {i : Instr} {s t : State} (held : GuardHolds v s) (h : exec i s = .next t)
    (notClear : i ≠ .cmdGuardClr) (notReset : i ≠ .evPor) : GuardHolds v t where
  guarded := by
    obtain ⟨-, -, -, cleared, -⟩ := flagsAndLfcAreWrittenOnlyByTheirWriters i s t h
    exact Bool.eq_true_of_not_eq_false fun unset => (cleared unset held.guarded).elim notClear notReset
  noLag := exec_cfg h ▸ held.noLag
  lfc := by
    by_cases tick : i = .evWindowTick
    · subst tick
      obtain ⟨runs, -⟩ := ite_stuck_eq_next.mp h
      rw [exec_windowTick_of_enabled runs, State.capture_of_guarded held.guarded held.noLag] at h
      cases h
      exact held.lfc
    · obtain ⟨-, -, -, -, written⟩ := flagsAndLfcAreWrittenOnlyByTheirWriters i s t h
      by_contra changed
      exact (written (held.lfc ▸ changed)).elim tick notReset

theorem GuardHolds.begin {v : Word} {s : State} (held : GuardHolds v s) (rest : List Word) :
    GuardHolds v (s.begin rest) := { held with }

/-- A read of byte `k` answers that byte of the held value. -/
theorem GuardHolds.resp_of_answer {v : Word} {s t : State} {k : Nat} (held : GuardHolds v s)
    (h : Host.Outcome.next (s.answer (s.lfcByte k)) = (.next t : Result)) :
    t.resp = .data (v.extractLsb' (8 * k) 8) := by
  cases h
  rw [State.answer_resp, State.lfcByte, held.lfc]

/-- Each transition of the run is taken from a state in which the guard still holds the value. -/
theorem Run.guard_holds {v : Word} {s t : State} {run : List Transition} (h : Run s run t) (held : GuardHolds v s)
    (keeps : ∀ tr ∈ run, tr.op ≠ .cmdGuardClr ∧ tr.op ≠ .evPor) :
    ∀ tr ∈ run, GuardHolds v tr.pre ∧ perform tr.op tr.pre = .next tr.post := by
  induction h with
  | nil s => exact fun _ mem => nomatch mem
  | cons s u t i rest first tail ih =>
    obtain ⟨⟨notClear, notReset⟩, keeps⟩ := List.forall_mem_cons.mp keeps
    exact List.forall_mem_cons.mpr
      ⟨⟨held, first⟩, ih ((held.begin _).of_exec first notClear notReset) keeps⟩

/-- Settles O19: the GUARD_SET makes the guard hold the value of `lfc`, the run keeps it so, and a tick zeroes the count
whether it captures or not. -/
theorem guardedReadsSeeOneValue : Obligations.GuardedReadsSeeOneValue := by
  intro s0 s t run noLag guardSet h keeps
  cases guardSet
  have start : GuardHolds s0.lfc ((s0.begin s0.schedule).setGuard true) := ⟨rfl, noLag, rfl⟩
  rintro ⟨pre, i, post⟩ mem
  obtain ⟨held, taken⟩ := h.guard_holds start keeps _ mem
  obtain ⟨notClear, notReset⟩ := keeps _ mem
  have before : GuardHolds s0.lfc (pre.begin pre.schedule) := held.begin _
  refine ⟨(before.of_exec taken notClear notReset).lfc, ?_, ?_, ?_, ?_, ?_⟩ <;> rintro rfl
  · exact before.resp_of_answer (k := 0) taken
  · exact before.resp_of_answer (k := 1) taken
  · exact before.resp_of_answer (k := 2) taken
  · exact before.resp_of_answer (k := 3) taken
  · exact (effect_of_exec taken).tick_zeroes

/-! ## The operations one by one (R80 to R87) -/

/-- Settles O16: an enabled tick is the capture of its case, and then the clear. -/
theorem windowTickCapturesAndClears : Obligations.WindowTickCapturesAndClears := by
  refine ⟨fun _ => decode_encode (i := .evWindowTick) rfl, fun s => ⟨?_, ?_, ?_, ?_⟩⟩
  · intro runs clear
    rw [exec_windowTick_of_enabled runs, State.capture_of_clear clear]
    rfl
  · intro runs guarded noLag
    rw [exec_windowTick_of_enabled runs, State.capture_of_guarded guarded noLag]
    rfl
  · intro runs guarded lag
    refine ⟨Config.captureDraw s.draws, ?_⟩
    rw [exec_windowTick_of_enabled runs, State.capture_of_lag guarded lag]
    rfl
  · intro disabled
    exact if_neg (Bool.eq_false_iff.mp disabled)

/-- Settles O17: the guard commands have no enabling condition, and their effect is `State.setGuard`. -/
theorem guardCommandsWriteOnlyTheGuard : Obligations.GuardCommandsWriteOnlyTheGuard :=
  ⟨fun _ => ⟨decode_encode (i := .cmdGuardSet) rfl, decode_encode (i := .cmdGuardClr) rfl⟩, fun _ => ⟨rfl, rfl⟩⟩

theorem State.lfcBytes_append (s : State) :
    (s.lfcByte 3 ++ s.lfcByte 2 ++ s.lfcByte 1 ++ s.lfcByte 0 : BitVec 32) = s.lfc := by
  rw [← BitVec.toNat_inj, toNat_append_byte, toNat_append_byte, toNat_append_byte]
  simp only [State.lfcByte, BitVec.extractLsb'_toNat, Nat.shiftRight_eq_div_pow]
  omega

/-- Settles O18: the four reads answer the four bytes of `lfc`. -/
theorem lfcReadsReturnTheBytesLowToHigh : Obligations.LfcReadsReturnTheBytesLowToHigh :=
  ⟨fun _ => ⟨decode_encode (i := .rdLfc0) rfl, decode_encode (i := .rdLfc1) rfl, decode_encode (i := .rdLfc2) rfl,
    decode_encode (i := .rdLfc3) rfl⟩,
    fun s => ⟨s.lfcByte 0, s.lfcByte 1, s.lfcByte 2, s.lfcByte 3, s.lfcBytes_append, rfl, rfl, rfl, rfl⟩⟩

end Sys2Proof.Machine

/-! # Proofs: the mode FSM and the battery sample (42_mode_fsm.md) -/

namespace Sys2Proof.Machine

/-! ## The mode cycle (R90, R99) -/

theorem nextMode_thrice {m : BitVec 2} (legal : m ≠ 3) : nextMode^[3] m = m := by revert m; decide

/-- Of the two writers of the mode, power-on reset is left out, and MODE_ADV moves it on. -/
theorem mode_of_exec {i : Instr} {s t : State} (h : exec i s = .next t) (notReset : i ≠ .evPor) :
    t.mode = if i = .cmdModeAdv then nextMode s.mode else s.mode := by
  split
  next advance =>
    subst advance
    cases h
    exact s.advanceMode_mode
  next other =>
    obtain ⟨written, -⟩ := modeOutputsAndInputsAreWrittenOnlyByTheirWriters i s t h
    by_contra changed
    exact (written (.inl changed)).elim other notReset

/-- A run without power-on reset moves the mode on once for each MODE_ADV. -/
theorem Run.mode_eq {s t : State} {run : List Transition} (h : Run s run t)
    (noReset : ∀ tr ∈ run, tr.op ≠ .evPor) : t.mode = nextMode^[timesOf .cmdModeAdv run] s.mode := by
  induction h with
  | nil s => rfl
  | cons s u t i rest first tail ih =>
    obtain ⟨head, noReset⟩ := List.forall_mem_cons.mp noReset
    have step : u.mode = if i = .cmdModeAdv then nextMode s.mode else s.mode :=
      mode_of_exec (s := s.begin s.schedule) first head
    rw [ih noReset, step, timesOf_cons]
    split <;> rfl

theorem carryValue_eq_zero_iff (s : State) : carryValue s = 0 ↔ s.c1 = 0 ∧ s.c2 = 0 ∧ s.c3 = 0 := by
  simp only [← BitVec.toNat_inj, BitVec.ofNat_eq_ofNat, BitVec.toNat_ofNat, carryValue]
  omega

/-- A MODE_ADV on the way into a frequency mode runs the setup (R94). -/
theorem advanceMode_clears {s : State} (measuring : nextMode s.mode ≠ batteryVoltage) :
    s.advanceMode.hw = 0 ∧ s.advanceMode.c1 = 0 ∧ s.advanceMode.c2 = 0 ∧ s.advanceMode.c3 = 0
      ∧ s.advanceMode.pend = false := by
  have frequency : nextMode s.mode = baseFrequency ∨ nextMode s.mode = extraFrequency := by
    obtain base | extra | battery := mode_cases (nextMode_ne_three s.mode)
    · exact .inl base
    · exact .inr extra
    · exact absurd battery measuring
  obtain ⟨hw, carries, pend⟩ := enterMode_clears (s := { s with mode := nextMode s.mode }) frequency
  obtain ⟨c1, c2, c3⟩ := (carryValue_eq_zero_iff _).mp carries
  exact ⟨hw, c1, c2, c3, pend⟩

/-- Settles O26: the mode has moved on three times at the end of the run and twice before the third MODE_ADV, which
therefore leads back into the frequency mode of the start. -/
theorem threeModeAdvancesReturnToTheMode : Obligations.ThreeModeAdvancesReturnToTheMode := by
  intro s t run inv h three noReset
  refine ⟨?_, ?_⟩
  · rw [h.mode_eq noReset, three, nextMode_thrice inv.legalMode]
  · rintro measuring before after ⟨pre, i, post⟩ rfl advance two
    obtain rfl : i = .cmdModeAdv := advance
    obtain ⟨_, left, right⟩ := h.of_append
    cases right with
    | cons _ _ _ _ _ first _ =>
      cases first
      have twice := left.mode_eq fun tr mem => noReset tr (List.mem_append_left _ mem)
      have back : nextMode pre.mode = s.mode := by
        rw [twice, two]
        exact nextMode_thrice inv.legalMode
      exact advanceMode_clears (s := pre.begin pre.schedule) (back.symm ▸ measuring)

/-! ## MODE_ADV from each mode (R91 to R95) -/

theorem advanceMode_to_base {s : State} (h : nextMode s.mode = baseFrequency) :
    s.advanceMode = { s with mode := baseFrequency }.enterBaseFrequency := by
  rw [← h]
  exact State.enterMode_of_base h

theorem advanceMode_to_extra {s : State} (h : nextMode s.mode = extraFrequency) :
    s.advanceMode = { s with mode := extraFrequency }.enterExtraFrequency := by
  rw [← h]
  exact State.enterMode_of_extra h

theorem advanceMode_to_battery {s : State} (h : nextMode s.mode = batteryVoltage) :
    s.advanceMode = { s with mode := batteryVoltage }.enterBatteryVoltage := by
  rw [← h]
  exact State.enterMode_of_battery h

/-- Settles O24: R90's formula gives the next mode, and the operation is that mode's entry action. -/
theorem modeAdvanceRunsTheEntryAction : Obligations.ModeAdvanceRunsTheEntryAction := by
  refine ⟨fun _ => decode_encode (i := .cmdModeAdv) rfl, fun s => ⟨?_, ?_, ?_⟩⟩ <;> intro mode
  · exact congrArg Host.Outcome.next (advanceMode_to_extra (mode ▸ rfl))
  · exact congrArg Host.Outcome.next (advanceMode_to_battery (mode ▸ rfl))
  · exact congrArg Host.Outcome.next (advanceMode_to_base (mode ▸ rfl))

/-- Settles O25: the formula leads from mode number 3 to ExtraFrequency, as it does from mode 0. -/
theorem modeAdvanceFromTheUnreachableMode : Obligations.ModeAdvanceFromTheUnreachableMode :=
  fun _ mode => congrArg Host.Outcome.next (advanceMode_to_extra (mode ▸ rfl))

/-! ## The battery sample (R96 to R98) -/

theorem decode_adcResult_of_range {n : Nat} {v : BitVec 16} (tooLarge : ¬ v.toNat < 2 ^ n) :
    decode n (encode (.evAdcResult v)) = .error .argRange := by
  simp [decode, decodeBlockEvent, encode, blockEventWord, eventOperation, not_lt.mp tooLarge]

/-- Settles O27: the stored value is `sampleBits` of the argument, and the decoder's bound is the one under which that
is the argument itself. -/
theorem adcResultStoresTheSample : Obligations.AdcResultStoresTheSample := by
  refine ⟨fun n v => ?_, fun s v => ⟨fun runs => ?_, fun disabled => ?_⟩⟩
  · rw [← encode_evAdcResult]
    split
    next fits => exact decode_encode (decide_eq_true fits)
    next tooLarge => exact decode_adcResult_of_range tooLarge
  · exact ⟨sampleBits s.cfg.adcBits v, if_pos runs, sampleBits_toNat _ v, sampleBits_of_fits⟩
  · exact if_neg (Bool.eq_false_iff.mp disabled)

theorem State.batteryBytes_append (s : State) : (s.batteryHigh ++ s.batteryLow : BitVec 16) = s.bat := by
  rw [← BitVec.toNat_inj, toNat_append_byte]
  simp only [State.batteryHigh, State.batteryLow, BitVec.extractLsb'_toNat, Nat.shiftRight_eq_div_pow]
  omega

/-- A sample of `n` bits has `n - 8` of them above its low byte. -/
theorem State.batteryHigh_lt {s : State} {n : Nat} (fits : s.bat.toNat < 2 ^ n) :
    s.batteryHigh.toNat < 2 ^ (n - 8) := by
  have bytes : s.bat.toNat = 256 * s.batteryHigh.toNat + s.batteryLow.toNat := by
    rw [← toNat_append_byte, s.batteryBytes_append]
  have width : 2 ^ n ≤ 256 * 2 ^ (n - 8) :=
    calc 2 ^ n ≤ 2 ^ (8 + (n - 8)) := Nat.pow_le_pow_right (by decide) (by omega)
      _ = 256 * 2 ^ (n - 8) := Nat.pow_add 2 8 (n - 8)
  omega

/-- Settles O28: the reads answer the two bytes of `bat`, which under the invariant has `P_ADC_BITS` bits. -/
theorem batteryReadsReturnTheSample : Obligations.BatteryReadsReturnTheSample :=
  ⟨fun _ => ⟨decode_encode (i := .rdBatlo) rfl, decode_encode (i := .rdBathi) rfl⟩,
    fun s => ⟨s.batteryLow, s.batteryHigh, s.batteryBytes_append, fun inv => State.batteryHigh_lt inv.sampleFits,
      rfl, rfl⟩⟩

end Sys2Proof.Machine

/-! # Proofs: status, overflow clear, indicator and button (43_host_status.md) -/

namespace Sys2Proof.Machine

/-! ## The bytes of STATUS and MODE (30_encoding.md R53, R54) -/

/-- STATUS is its bits from `led` down, appended one at a time. -/
theorem State.statusByte_eq_concat (s : State) :
    s.statusByte = (((((((BitVec.ofBool s.led).concat s.adcEn).concat s.smpEn).concat s.extEn).concat s.pscEn).concat
      s.btnN).concat s.guard).concat s.ovf := rfl

theorem State.statusByte_getLsbD (s : State) (i : Nat) :
    s.statusByte.getLsbD i
      = [s.ovf, s.guard, s.btnN, s.pscEn, s.extEn, s.smpEn, s.adcEn, s.led].getD i false := by
  rw [s.statusByte_eq_concat]
  match i with
  | 0 | 1 | 2 | 3 | 4 | 5 | 6 | 7 => simp [BitVec.getElem_concat]
  | i + 8 => exact BitVec.getLsbD_of_ge _ _ (Nat.le_add_left 8 i)

theorem State.modeByte_toNat (s : State) : s.modeByte.toNat = s.mode.toNat :=
  BitVec.toNat_setWidth_of_le (by decide)

theorem State.modeByte_ne_three {s : State} (legal : s.mode ≠ 3) : s.modeByte ≠ 3 := by
  intro three
  have value := s.modeByte_toNat
  rw [three] at value
  exact legal (BitVec.eq_of_toNat_eq value.symm)

/-! ## The overflow flag between a clear and the next wrap (R107) -/

/-- Only a carry service that wraps `c3` sets `ovf` (10_state.md R14). -/
theorem ovf_clear_of_perform {i : Instr} {s t : State} (h : perform i s = .next t)
    (noWrap : (Transition.mk s i t).wrapsCount = false) (clear : s.ovf = false) : t.ovf = false := by
  obtain ⟨writer, -⟩ := flagsAndLfcAreWrittenOnlyByTheirWriters i _ t h
  refine Bool.eq_false_of_not_eq_true fun set => ?_
  obtain ⟨service, c1, c2, c3⟩ : i = .evCarryService ∧ s.c1 = 255 ∧ s.c2 = 255 ∧ s.c3 = 255 := writer set clear
  simp [Transition.wrapsCount, service, c1, c2, c3] at noWrap

/-- Each transition of the run is taken from a state in which the flag is still clear. -/
theorem Run.ovf_clear {s t : State} {run : List Transition} (h : Run s run t) (clear : s.ovf = false)
    (noWrap : ∀ tr ∈ run, tr.wrapsCount = false) :
    ∀ tr ∈ run, tr.pre.ovf = false ∧ perform tr.op tr.pre = .next tr.post := by
  induction h with
  | nil s => exact fun _ mem => nomatch mem
  | cons s u t i rest first tail ih =>
    obtain ⟨head, noWrap⟩ := List.forall_mem_cons.mp noWrap
    exact List.forall_mem_cons.mpr ⟨⟨clear, first⟩, ih (ovf_clear_of_perform first head clear) noWrap⟩

theorem resp_of_perform_rdStatus {s t : State} (h : perform .rdStatus s = .next t) :
    t.resp = .data s.statusByte := by
  cases h
  rfl

/-- Settles O35: the run keeps the cleared flag clear, and a STATUS read answers it in bit 0. -/
theorem clearedOverflowReadsZeroUntilTheNextWrap : Obligations.ClearedOverflowReadsZeroUntilTheNextWrap := by
  intro s0 s t run ovfClr h noWrap
  cases ovfClr
  rintro ⟨pre, i, post⟩ mem rfl
  obtain ⟨clear, taken⟩ := h.ovf_clear rfl noWrap _ mem
  exact ⟨pre.statusByte, resp_of_perform_rdStatus taken, (pre.statusByte_getLsbD 0).trans clear⟩

/-! ## The operations one by one (R100 to R106) -/

/-- Settles O30: the read answers the STATUS byte. -/
theorem statusReadReturnsTheEightBits : Obligations.StatusReadReturnsTheEightBits :=
  ⟨fun _ => decode_encode (i := .rdStatus) rfl, fun s =>
    have bit := s.statusByte_getLsbD
    ⟨s.statusByte, rfl, bit 0, bit 1, bit 2, bit 3, bit 4, bit 5, bit 6, bit 7⟩⟩

/-- Settles O31: the read answers the MODE byte, and under the invariant no mode number is 3. -/
theorem modeReadReturnsTheModeNumber : Obligations.ModeReadReturnsTheModeNumber :=
  ⟨fun _ => decode_encode (i := .rdMode) rfl,
    fun s => ⟨s.modeByte, rfl, s.modeByte_toNat, fun inv => State.modeByte_ne_three inv.legalMode⟩⟩

/-- Settles O32: the command has no enabling condition, and its effect is `State.clearOverflow`. -/
theorem overflowClearWritesOnlyTheFlag : Obligations.OverflowClearWritesOnlyTheFlag :=
  ⟨fun _ => decode_encode (i := .cmdOvfClr) rfl, fun _ => rfl⟩

/-- Settles O33: the commands have no enabling condition, and their effect is `State.setLed`. -/
theorem indicatorCommandsWriteOnlyTheIndicator : Obligations.IndicatorCommandsWriteOnlyTheIndicator :=
  ⟨fun _ => ⟨decode_encode (i := .cmdLedOn) rfl, decode_encode (i := .cmdLedOff) rfl⟩, fun _ => ⟨rfl, rfl⟩⟩

/-- Settles O34: the level selects which of the two events is enabled, and the effect is `State.setButton`. -/
theorem buttonEventsAlternateTheLevel : Obligations.ButtonEventsAlternateTheLevel := by
  refine ⟨fun _ => ⟨decode_encode (i := .evBtnDown) rfl, decode_encode (i := .evBtnUp) rfl⟩, fun s => ⟨?_, ?_⟩⟩
  · intro released
    exact ⟨if_pos released, if_pos released⟩
  · intro pressed
    have notReleased : ¬ s.btnN = true := Bool.eq_false_iff.mp pressed
    exact ⟨if_neg notReleased, if_neg notReleased⟩

end Sys2Proof.Machine

/-! # Proofs: refused words, enabledness, the fault record and fairness (60_exceptions.md) -/

namespace Sys2Proof

/-! ## Why a word is refused (R126), in the order of 30_encoding.md R59 -/

theorem decode_of_reservedKind {w : Word} (n : Nat) (hK : fieldK w = 3) : decode n w = .error .reservedKind :=
  if_pos hK

theorem decode_of_reservedBits {w : Word} (n : Nat) (hK : fieldK w ≠ 3) (hZ : fieldZ w ≠ 0) :
    decode n w = .error .reservedField :=
  (if_neg hK).trans (if_pos hZ)

theorem decode_of_hostRead {w : Word} (n : Nat) (hK : fieldK w = 0) (hZ : fieldZ w = 0) :
    decode n w = decodeHostRead w := by
  simp [decode, hK, hZ]

theorem decode_of_hostWrite {w : Word} (n : Nat) (hK : fieldK w = 1) (hZ : fieldZ w = 0) :
    decode n w = decodeHostWrite w := by
  simp [decode, hK, hZ]

theorem decode_of_blockEvent {w : Word} (n : Nat) (hK : fieldK w = 2) (hZ : fieldZ w = 0) :
    decode n w = decodeBlockEvent n w := by
  simp [decode, hK, hZ]

theorem fieldArg_eq_zero_iff (w : Word) : fieldArg w = 0 ↔ fieldH w = 0 ∧ fieldD w = 0 := by
  simp only [fieldArg_eq_append, ← BitVec.toNat_inj, Machine.toNat_append_byte, BitVec.ofNat_eq_ofNat,
    BitVec.toNat_ofNat]
  omega

/-- The codes of R56 are 1 to 6. -/
theorem commandOperation_eq_none_iff (d : Byte) : commandOperation d = none ↔ d = 0 ∨ 7 ≤ d.toNat := by
  unfold commandOperation
  repeat' split
  all_goals simp_all -- the branches of a number with a meaning close; the last one is left
  bv_omega

/-- The event numbers of R57 are 1 to 7. -/
theorem eventOperation_eq_none_iff (e : Byte) (arg : BitVec 16) :
    eventOperation e arg = none ↔ e = 0 ∨ 8 ≤ e.toNat := by
  unfold eventOperation
  repeat' split
  all_goals simp_all -- the branches of a number with a meaning close; the last one is left
  bv_omega

end Sys2Proof

namespace Sys2Proof.Machine

/-! ### Host reads: RF2, RF3, RF4 -/

theorem decodeHostRead_of_arg {w : Word} (hArg : fieldArg w ≠ 0) : decodeHostRead w = .error .reservedField :=
  if_pos (not_and_or.mp fun zero => hArg ((fieldArg_eq_zero_iff w).mpr zero))

theorem decodeHostRead_of_unmapped {w : Word} (hArg : fieldArg w = 0)
    (unmapped : fieldA w = 3 ∨ 10 ≤ (fieldA w).toNat) : decodeHostRead w = .error .reservedAddress := by
  obtain ⟨hH, hD⟩ := (fieldArg_eq_zero_iff w).mp hArg
  have notMem := (not_mem_implementedAddresses_iff (fieldA w)).mpr unmapped
  simp [decodeHostRead, hH, hD, notMem]

theorem decodeHostRead_of_cmd {w : Word} (hArg : fieldArg w = 0) (hA : fieldA w = cmdAddress) :
    decodeHostRead w = .error .wrongDirection := by
  obtain ⟨hH, hD⟩ := (fieldArg_eq_zero_iff w).mp hArg
  have mapped : cmdAddress ∈ implementedAddresses := by decide
  have noRead : readOperation cmdAddress = none := rfl
  simp [decodeHostRead, hH, hD, hA, mapped, noRead]

/-! ### Host writes: RF2, RF3, RF4, RF5 -/

theorem decodeHostWrite_of_high {w : Word} (hH : fieldH w ≠ 0) : decodeHostWrite w = .error .reservedField :=
  if_pos hH

theorem decodeHostWrite_of_unmapped {w : Word} (hH : fieldH w = 0)
    (unmapped : fieldA w = 3 ∨ 10 ≤ (fieldA w).toNat) : decodeHostWrite w = .error .reservedAddress := by
  have notMem := (not_mem_implementedAddresses_iff (fieldA w)).mpr unmapped
  simp [decodeHostWrite, hH, notMem]

theorem decodeHostWrite_of_readOnly {w : Word} (hH : fieldH w = 0)
    (mapped : ¬ (fieldA w = 3 ∨ 10 ≤ (fieldA w).toNat)) (hA : fieldA w ≠ cmdAddress) :
    decodeHostWrite w = .error .wrongDirection := by
  have mem : fieldA w ∈ implementedAddresses :=
    not_not.mp fun notMem => mapped ((not_mem_implementedAddresses_iff (fieldA w)).mp notMem)
  simp [decodeHostWrite, hH, mem, hA]

theorem decodeHostWrite_of_noCommand {w : Word} (hH : fieldH w = 0) (hA : fieldA w = cmdAddress)
    (code : fieldD w = 0 ∨ 7 ≤ (fieldD w).toNat) : decodeHostWrite w = .error .reservedCommand := by
  have mapped : cmdAddress ∈ implementedAddresses := by decide
  have noCommand := (commandOperation_eq_none_iff (fieldD w)).mpr code
  simp [decodeHostWrite, hH, hA, mapped, noCommand]

/-! ### Block events: RF6, RF2, RF7 -/

theorem decodeBlockEvent_of_noEvent {w : Word} (n : Nat) (number : fieldA w = 0 ∨ 8 ≤ (fieldA w).toNat) :
    decodeBlockEvent n w = .error .reservedEvent := by
  have noEvent := (eventOperation_eq_none_iff (fieldA w) (fieldArg w)).mpr number
  simp [decodeBlockEvent, noEvent]

theorem decodeBlockEvent_of_arg {w : Word} (n : Nat) (positive : fieldA w ≠ 0) (small : (fieldA w).toNat < 8)
    (noArgument : fieldA w ≠ 6) (hArg : fieldArg w ≠ 0) : decodeBlockEvent n w = .error .reservedField := by
  have isEvent : eventOperation (fieldA w) (fieldArg w) ≠ none := fun noEvent =>
    ((eventOperation_eq_none_iff _ _).mp noEvent).elim positive (not_le.mpr small)
  obtain ⟨i, event⟩ := Option.ne_none_iff_exists'.mp isEvent
  simp only [decodeBlockEvent, event]
  exact if_pos ⟨noArgument, hArg⟩

theorem decode_of_range {w : Word} {n : Nat} (hK : fieldK w = 2) (hZ : fieldZ w = 0) (hA : fieldA w = 6)
    (tooLarge : 2 ^ n ≤ (fieldArg w).toNat) : decode n w = .error .argRange := by
  have word : encode (.evAdcResult (fieldArg w)) = w := by
    rw [← operationWord_fields hZ, hK, hA, fieldArg_operationWord]
    rfl
  exact word ▸ decode_adcResult_of_range (not_lt.mpr tooLarge)

/-- Settles O4: one lemma for each check of R59, behind the branch of the word's kind. -/
theorem refusedWordsReportTheFirstReason : Obligations.RefusedWordsReportTheFirstReason := by
  intro n w
  exact ⟨decode_of_reservedKind n, decode_of_reservedBits n,
    fun hK hZ hArg => (decode_of_hostRead n hK hZ).trans (decodeHostRead_of_arg hArg),
    fun hK hZ hArg unmapped => (decode_of_hostRead n hK hZ).trans (decodeHostRead_of_unmapped hArg unmapped),
    fun hK hZ hArg hA => (decode_of_hostRead n hK hZ).trans (decodeHostRead_of_cmd hArg hA),
    fun hK hZ hH => (decode_of_hostWrite n hK hZ).trans (decodeHostWrite_of_high hH),
    fun hK hZ hH unmapped => (decode_of_hostWrite n hK hZ).trans (decodeHostWrite_of_unmapped hH unmapped),
    fun hK hZ hH mapped hA => (decode_of_hostWrite n hK hZ).trans (decodeHostWrite_of_readOnly hH mapped hA),
    fun hK hZ hH hA code => (decode_of_hostWrite n hK hZ).trans (decodeHostWrite_of_noCommand hH hA code),
    fun hK hZ number => (decode_of_blockEvent n hK hZ).trans (decodeBlockEvent_of_noEvent n number),
    fun hK hZ positive small noArgument hArg =>
      (decode_of_blockEvent n hK hZ).trans (decodeBlockEvent_of_arg n positive small noArgument hArg),
    decode_of_range⟩

/-- Settles O6: it is the refusal case of a step, with `State.begin` and `State.refuse` written out. -/
theorem stepOfARefusedWordOnlySetsTheMark : Obligations.StepOfARefusedWordOnlySetsTheMark :=
  fun _ _ _ _ hs hd => step_of_refused hs hd

/-! ## An operation steps exactly when it is enabled (R129) -/

theorem exec_of_enabled {i : Instr} {s : State} (h : enabled i s = true) : ∃ t, exec i s = .next t := by
  cases i with
  | evCarryService | evWindowTick | evBtnDown | evAdcResult => exact ⟨_, if_pos h⟩
  | evBtnUp =>
    have pressed : ¬ s.btnN = true := by simpa [enabled] using h
    exact ⟨_, if_neg pressed⟩
  | _ => exact ⟨_, rfl⟩

theorem exec_of_not_enabled {i : Instr} {s : State} (h : enabled i s = false) : exec i s = .fault .noStep := by
  cases i with
  | evCarryService | evWindowTick | evBtnDown | evAdcResult => exact if_neg (Bool.eq_false_iff.mp h)
  | evBtnUp =>
    have released : s.btnN = true := by simpa [enabled] using h
    exact if_pos released
  | _ => cases h

/-- Settles O39: only five operations have a condition, and each is `stuck` where it fails. -/
theorem operationsStepExactlyWhenEnabled : Obligations.OperationsStepExactlyWhenEnabled :=
  fun _ _ => ⟨exec_of_enabled, exec_of_not_enabled⟩

/-! ## The fault record (R125, R128) -/

theorem Effect.faults_eq {i : Instr} {s t : State} (effect : Effect s i t) (notEdge : i ≠ .evCountEdge) :
    t.faults = s.faults := by
  cases effect with
  | losingEdge => exact absurd rfl notEdge
  | modeAdv => exact State.enterMode_faults _
  | por => exact State.enterMode_faults _
  | _ => rfl

/-- Of the four ways an edge can come out only one records F1 (40_counter.md R70). -/
theorem Effect.carryLost_of_edge {s t : State} (effect : Effect s .evCountEdge t) :
    FaultCode.carryLost ∈ t.faults ↔
      FaultCode.carryLost ∈ s.faults ∨ (s.extEn = true ∧ s.hw = 255 ∧ s.pend = true) := by
  cases effect with
  | read _ kind => cases kind
  | haltedEdge halted => simp [halted]
  | plainEdge _ room => exact (or_iff_left fun ⟨_, full, _⟩ => room full).symm
  | wrappingEdge _ _ clear => simp [clear]
  | losingEdge runs full pending =>
    exact iff_of_true ((s.mem_raiseFault _ _).mpr (.inr rfl)) (.inr ⟨runs, full, pending⟩)

theorem Effect.wraps_of_edge {s t : State} (effect : Effect s .evCountEdge t) (runs : s.extEn = true)
    (full : s.hw = 255) : t.hw = 0 ∧ t.pend = true := by
  cases effect with
  | read _ kind => cases kind
  | haltedEdge halted => exact absurd runs (Bool.eq_false_iff.mp halted)
  | plainEdge _ room => exact absurd full room
  | wrappingEdge | losingEdge => exact ⟨rfl, rfl⟩

/-- Settles O46: only an edge can record F1, and of the edges the one that finds a carry pending at a wrap. -/
theorem faultRecordGrowsExactlyOnALostCarry : Obligations.FaultRecordGrowsExactlyOnALostCarry := by
  intro i s t h
  have effect := effect_of_exec h
  refine ⟨?_, ?_, effect.refused_eq⟩
  · by_cases edge : i = .evCountEdge
    · subst edge
      simpa using effect.carryLost_of_edge
    · simp [effect.faults_eq edge, edge]
  · rintro rfl runs full -
    exact effect.wraps_of_edge runs full

/-! ## A carry service and a tick in either order (R123, R124) -/

/-- A carry is 256 edges of the extended count. -/
theorem State.rippleCarry_extendedCount (s : State) : s.rippleCarry.extendedCount = s.extendedCount + 256 := by
  have value := s.rippleCarry_value
  have bound := s.extendedCount.isLt
  rw [extendedCount_toNat] at bound
  rw [← BitVec.toNat_inj, BitVec.toNat_add, extendedCount_toNat, extendedCount_toNat, value, State.rippleCarry_hw]
  simp only [BitVec.ofNat_eq_ofNat, BitVec.toNat_ofNat]
  omega

theorem State.capture_lfc_of_clear {s : State} (clear : s.guard = false) : s.capture.lfc = s.extendedCount := by
  rw [State.capture_of_clear clear]

/-- Settles O22: the tick captures the extended count, to which a service before it has added a carry; a service after
it finds the carry bytes 0, and the request only if the tick keeps it. -/
theorem servicesRunInEitherOrder : Obligations.ServicesRunInEitherOrder := by
  intro s pending extRuns smpRuns clear
  have captured : s.capture.lfc = s.extendedCount := State.capture_lfc_of_clear clear
  refine ⟨⟨_, _, exec_carryService_of_enabled pending extRuns, exec_windowTick_of_enabled smpRuns, ?_,
      ite_self false, rfl⟩,
    _, exec_windowTick_of_enabled smpRuns, captured, fun keeps => ?_, fun clears => ?_⟩
  · rw [State.setPending_lfc, State.zeroCount_lfc,
      State.capture_lfc_of_clear (s := (s.setPending false).rippleCarry) clear, State.rippleCarry_extendedCount]
    rfl
  · have kept : (if s.cfg.sampleClearsPending then false else s.pend) = true := by simp [keeps, pending]
    exact ⟨_, exec_carryService_of_enabled kept extRuns, captured, rfl, rfl⟩
  · exact exec_of_not_enabled (by simp [enabled, clears])

/-! ## Fair runs (R133) -/

/-- A carry waits for its service: it is pending, the service is enabled, and no tick takes the request back. -/
structure CarryWaits (s : State) : Prop where
  pending : s.pend = true
  runs : s.extEn = true
  keeps : s.cfg.sampleClearsPending = false

theorem enables_of_perform {i : Instr} {s t : State} (h : perform i s = .next t) (notAdvance : i ≠ .cmdModeAdv)
    (notReset : i ≠ .evPor) : t.extEn = s.extEn ∧ t.smpEn = s.smpEn := by
  obtain ⟨written, -⟩ := modeOutputsAndInputsAreWrittenOnlyByTheirWriters i _ t h
  refine ⟨?_, ?_⟩ <;> by_contra changed
  · exact (written (.inr (.inr (.inl changed)))).elim notAdvance notReset
  · exact (written (.inr (.inr (.inr (.inl changed))))).elim notAdvance notReset

theorem CarryWaits.of_perform {i : Instr} {s t : State} (waits : CarryWaits s) (h : perform i s = .next t)
    (notService : i ≠ .evCarryService) (notAdvance : i ≠ .cmdModeAdv) (notReset : i ≠ .evPor) : CarryWaits t where
  pending := by
    obtain ⟨-, -, -, cleared⟩ := countIsWrittenOnlyByItsWriters i _ t h
    refine Bool.eq_true_of_not_eq_false fun unset => ?_
    obtain service | ⟨-, clears⟩ | advance | reset := cleared unset waits.pending
    · exact notService service
    · exact Bool.false_ne_true (waits.keeps.symm.trans clears)
    · exact notAdvance advance
    · exact notReset reset
  runs := (enables_of_perform h notAdvance notReset).1.trans waits.runs
  keeps := perform_cfg h ▸ waits.keeps

/-- Settles O51: an enable stays while no MODE_ADV and no reset comes, and with it a carry that is not serviced, so the
premise of fairness holds from there on. -/
theorem fairRunsServiceCarriesAndTick : Obligations.FairRunsServiceCarriesAndTick := by
  intro st op n run fair quiet
  refine ⟨fun pending runs keeps => ?_, fun runs => ?_⟩
  · by_contra unserviced
    have waits : ∀ m, n ≤ m → CarryWaits (st m) := fun m hm => by
      induction m, hm using Nat.le_induction with
      | base => exact ⟨pending, runs, keeps⟩
      | succ m hm waits =>
        obtain ⟨notAdvance, notReset⟩ := quiet m hm
        exact waits.of_perform (run m) (fun service => unserviced ⟨m, hm, service⟩) notAdvance notReset
    exact unserviced (fair.carry n fun m hm => ⟨(waits m hm).pending, (waits m hm).runs⟩)
  · refine fair.tick ⟨n, fun m hm => ?_⟩
    induction m, hm using Nat.le_induction with
    | base => exact runs
    | succ m hm ticks =>
      obtain ⟨notAdvance, notReset⟩ := quiet m hm
      obtain ⟨-, smpEn⟩ := enables_of_perform (run m) notAdvance notReset
      exact smpEn.trans ticks

end Sys2Proof.Machine

/-! # Proofs: reset, and the hazards of an unsynchronised reader (70_reset_and_hazards.md) -/

namespace Sys2Proof.Machine

/-! ## The carry-service deadline (R149) -/

theorem inc8_toNat_of_room {v : Byte} (room : v ≠ 255) : (inc8 v).toNat = v.toNat + 1 := by
  rw [inc8_toNat]
  bv_omega

/-- An entry action zeroes `hw` or leaves it alone. -/
theorem State.enterMode_hw_le (s : State) : s.enterMode.hw.toNat ≤ s.hw.toNat := by
  unfold State.enterMode
  repeat' split
  all_goals simp

/-- No transition moves `hw` up by more than the edge it counts. -/
theorem Effect.hw_le {i : Instr} {s t : State} (effect : Effect s i t) :
    t.hw.toNat ≤ s.hw.toNat + (Transition.mk s i t).countsEdge.toNat := by
  cases effect with
  | plainEdge runs room => simp [inc8_toNat_of_room room, Transition.countsEdge, runs]
  | modeAdv => exact Nat.le_add_right_of_le (State.enterMode_hw_le _)
  | por => exact Nat.le_add_right_of_le ((State.enterMode_hw_le _).trans (Nat.zero_le _))
  | wrappingEdge | losingEdge | keepingTick | clearingTick => exact Nat.zero_le _
  | _ => exact Nat.le_add_right _ _

theorem Transition.edge_of_losesCarry {tr : Transition} (h : tr.losesCarry = true) :
    tr.countsEdge = true ∧ tr.pre.hw = 255 := by
  simp only [Transition.losesCarry, Bool.and_eq_true, decide_eq_true_eq] at h
  exact h.1

/-- A carry is lost at a wrap only, which takes as many edges as are missing from `hw` to 256. -/
theorem Run.loses_no_carry {s t : State} {run : List Transition} (h : Run s run t)
    (few : s.hw.toNat + run.countP (fun tr => tr.countsEdge) < 256) : ∀ tr ∈ run, tr.losesCarry = false := by
  induction h with
  | nil s => exact fun _ mem => nomatch mem
  | cons s u t i rest first tail ih =>
    have moved : u.hw.toNat ≤ s.hw.toNat + (Transition.mk s i u).countsEdge.toNat := (effect_of_exec first).hw_le
    rw [countP_cons_toNat] at few
    refine List.forall_mem_cons.mpr ⟨Bool.eq_false_of_not_eq_true fun loses => ?_, ih (by omega)⟩
    obtain ⟨counts, full⟩ := Transition.edge_of_losesCarry loses
    have full : s.hw.toNat = 255 := congrArg BitVec.toNat full
    rw [counts, Bool.toNat_true] at few
    omega

/-- Inside a window a carry that is not serviced stays pending, and an edge either moves `hw` up or records F1. -/
theorem Effect.pending_and_lost_or_counted {i : Instr} {s t : State} (effect : Effect s i t) (pending : s.pend = true)
    (service : i ≠ .evCarryService) (stays : (Transition.mk s i t).startsWindow = false) :
    t.pend = true ∧ (FaultCode.carryLost ∈ t.faults
      ∨ t.hw.toNat = s.hw.toNat + (Transition.mk s i t).countsEdge.toNat) := by
  by_cases edge : i = .evCountEdge
  · subst edge
    cases effect with
    | read _ kind => cases kind
    | haltedEdge halted => exact ⟨pending, .inr (by simp [Transition.countsEdge, halted])⟩
    | plainEdge runs room =>
      exact ⟨pending, .inr (by simp [inc8_toNat_of_room room, Transition.countsEdge, runs])⟩
    | wrappingEdge _ _ clear => exact absurd pending (Bool.eq_false_iff.mp clear)
    | losingEdge => exact ⟨rfl, .inl ((s.mem_raiseFault _ _).mpr (.inr rfl))⟩
  · obtain ⟨hw, pend, -⟩ := effect.count_kept stays edge service
    rw [countsEdge_eq_false edge]
    exact ⟨pend.trans pending, .inr (congrArg BitVec.toNat hw)⟩

theorem Run.faults_subset {s t : State} {run : List Transition} (h : Run s run t) : s.faults ⊆ t.faults := by
  induction h with
  | nil s => exact List.Subset.refl _
  | cons s u t i rest first tail ih =>
    have step : s.faults ⊆ u.faults := (effect_of_exec first).faults_subset
    exact List.Subset.trans step ih

/-- Until F1 is recorded, a window without services counts its edges in `hw` alone. -/
theorem Run.lost_or_counted {s t : State} {run : List Transition} (h : Run s run t) (pending : s.pend = true)
    (window : ∀ tr ∈ run, tr.op ≠ .evCarryService ∧ tr.startsWindow = false) :
    FaultCode.carryLost ∈ t.faults ∨ t.hw.toNat = s.hw.toNat + run.countP (fun tr => tr.countsEdge) := by
  induction h with
  | nil s => exact .inr rfl
  | cons s u t i rest first tail ih =>
    obtain ⟨⟨service, stays⟩, window⟩ := List.forall_mem_cons.mp window
    have step : u.pend = true ∧ (FaultCode.carryLost ∈ u.faults
        ∨ u.hw.toNat = s.hw.toNat + (Transition.mk s i u).countsEdge.toNat) :=
      (effect_of_exec first).pending_and_lost_or_counted pending service stays
    obtain ⟨waits, lost | counted⟩ := step
    · exact .inl (tail.faults_subset lost)
    · refine (ih waits window).imp_right fun total => ?_
      rw [countP_cons_toNat]
      omega

/-- Settles O15: below 256 the edges reach no wrap, and from 256 on `hw` alone cannot hold them. -/
theorem carryServiceMustRunBeforeTheNextWrap : Obligations.CarryServiceMustRunBeforeTheNextWrap := by
  refine ⟨fun s t run h => h.loses_no_carry, fun s t run h pending many window =>
    (h.lost_or_counted pending window).resolve_right fun total => ?_⟩
  have byte := t.hw.isLt
  omega

/-! ## Last Full Count between ticks (R142, R147) -/

/-- Settles O21, by induction on the run: the two writers of `lfc` are left out. -/
theorem lastFullCountIsStaleUntilATick : Obligations.LastFullCountIsStaleUntilATick := by
  intro s t run h quiet
  induction h with
  | nil s => rfl
  | cons s u t i rest first tail ih =>
    obtain ⟨⟨notTick, notReset⟩, quiet⟩ := List.forall_mem_cons.mp quiet
    obtain ⟨-, -, -, -, written⟩ := flagsAndLfcAreWrittenOnlyByTheirWriters i _ u first
    have step : u.lfc = s.lfc := by
      by_contra changed
      exact (written changed).elim notTick notReset
    exact (ih quiet).trans step

/-! ## A carry across the end of a window (R143) -/

/-- A wrap takes 255 out of the extended count: the edge it counts, less the 256 of the carry it leaves pending. -/
theorem State.wrap_extendedCount {s : State} (full : s.hw = 255) :
    { s with hw := 0, pend := true }.extendedCount = s.extendedCount + 1 - 256 := by
  have before := extendedCount_toNat s
  have after : _ = 256 * carryValue s + 0 := extendedCount_toNat { s with hw := 0, pend := true }
  rw [full] at before
  bv_omega

theorem State.zeroCount_extendedCount (s : State) : s.zeroCount.extendedCount = 0 := by
  simp [State.extendedCount]

theorem State.zeroCount_rippleCarry_extendedCount (s : State) : s.zeroCount.rippleCarry.extendedCount = 256 := by
  rw [State.rippleCarry_extendedCount, State.zeroCount_extendedCount]
  rfl

/-- Settles O23: the tick captures the count without the pending carry, and the service after it finds the carry bytes
0, and the request only if the tick keeps it. -/
theorem carryStraddlingAWindowMovesOrLoses256 : Obligations.CarryStraddlingAWindowMovesOrLoses256 := by
  intro s full clear extRuns smpRuns unguarded
  have wraps := exec_countEdge_of_full extRuns full
  rw [State.wrapCounter_of_clear clear] at wraps
  refine ⟨_, _, wraps, exec_windowTick_of_enabled smpRuns, ?_, fun keeps => ?_,
    fun clears => ⟨s.zeroCount_extendedCount, ?_⟩⟩
  · exact (State.capture_lfc_of_clear (s := { s with hw := 0, pend := true }) unguarded).trans
      (State.wrap_extendedCount full)
  · exact ⟨_, exec_carryService_of_enabled (by simp [keeps]) extRuns, s.zeroCount_rippleCarry_extendedCount, rfl⟩
  · exact exec_of_not_enabled (by simp [enabled, clears])

/-! ## Reads torn by a block event (R144, R146, R148) -/

/-- Settles O20: a read changes nothing, so the unguarded tick captures the count of the start. -/
theorem unguardedReadAcrossATickIsTorn : Obligations.UnguardedReadAcrossATickIsTorn := by
  intro s runs clear
  let a := (s.begin s.schedule).answer (s.lfcByte 0)
  have captured : (a.begin a.schedule).capture.lfc = s.extendedCount :=
    State.capture_lfc_of_clear (s := a.begin a.schedule) clear
  exact ⟨a, _, _, rfl, rfl, exec_windowTick_of_enabled runs, rfl,
    congrArg (fun lfc : Word => Response.data (lfc.extractLsb' 8 8)) captured⟩

/-- Settles O29: ADC_RESULT does not look at the guard, and a sample in range is stored whole. -/
theorem guardedBatteryReadCanBeTorn : Obligations.GuardedBatteryReadCanBeTorn := by
  intro s v _ runs fits
  refine ⟨_, _, _, rfl, rfl, if_pos runs, rfl, ?_⟩
  have stored : sampleBits s.cfg.adcBits v = v := sampleBits_of_fits fits
  exact congrArg (fun bat : BitVec 16 => Response.data (bat.extractLsb' 8 8)) stored

/-- Settles O36: the flag the carry sets is up between the two reads only. -/
theorem overflowBetweenReadAndClearIsLost : Obligations.OverflowBetweenReadAndClearIsLost := by
  intro s clear pending runs c1 c2 c3
  refine ⟨_, _, _, _, _, _, rfl, rfl, (s.statusByte_getLsbD 0).trans clear,
    exec_carryService_of_enabled pending runs, ?_, rfl, rfl, rfl, State.statusByte_getLsbD _ 0⟩
  simp [State.rippleCarry_ovf, c1, c2, c3]

/-! ## Power-on reset (R140, R141) -/

/-- Settles O37: the reset is the entry action of the initial mode, run from the reset values. -/
theorem powerOnResetGivesTheInitialMode : Obligations.PowerOnResetGivesTheInitialMode := by
  refine ⟨fun _ => decode_encode (i := .evPor) rfl, fun s => ⟨fun initial => ?_, fun initial => ?_⟩⟩
  · rw [exec, execPor, State.powerOn, initial]
    exact congrArg Host.Outcome.next (State.enterMode_of_base rfl)
  · rw [exec, execPor, State.powerOn, initial]
    exact congrArg Host.Outcome.next (State.enterMode_of_extra rfl)

/-- Settles O38: the start state holds what the reset writes, for either initial mode. -/
theorem runsStartInThePowerOnState : Obligations.RunsStartInThePowerOnState := by
  refine ⟨fun s => ?_, fun c button => ⟨rfl, rfl, rfl, rfl⟩⟩
  obtain ⟨-, reset⟩ := powerOnResetGivesTheInitialMode
  obtain ⟨base, extra⟩ := reset s
  cases initial : s.cfg.initialMode with
  | baseFrequency =>
    rw [base initial]
    simp [State.start, initial]
  | extraFrequency =>
    rw [extra initial]
    simp [State.start, initial]

end Sys2Proof.Machine
